-- ==== Sys2Proof/Word.lean ====
section
/-! DEFINITION. The lane word, the sample range and the frame of the link (00_scope numeric conventions, R199). -/

namespace Sys2Proof

/-- One word of the control lane, and one word of a parcel (R200). -/
abbrev Word := BitVec 16

/-- The greatest sample value: a sample is a 24-bit signed integer (00_scope, Sample value). -/
def sampleMax : Int := 8388607

/-- The least sample value (00_scope, Sample value). -/
def sampleMin : Int := -8388608

/-- A frame of the link in either direction, without its sync pattern: the frame number, the eight slot words,
the lane word and the check byte, as R199 lays them out. -/
structure Frame where
  number : BitVec 8
  slots : Vector (BitVec 32) 8
  lane : Word
  check : BitVec 8
  deriving DecidableEq, Repr

end Sys2Proof
end

