-- ==== Sys2Proof/Syntax.lean ====
section
/-! DEFINITION. The kinds of parcel and the commands of the part: one constructor of `Instr` for each row of
spec/opcode_table.json. A parcel command carries the parcel's tag and body words, which R200 and R201 lay out; an
event command carries what the outside world supplies with the event (a frame, a count, the pin levels, two
conversions) or names the object the event belongs to (a chain, a context, a slot, a channel, a line). -/

namespace Sys2Proof

/-- The kinds of parcel the part accepts (Table 11-4). -/
inductive Kind where
  | writeChainInput
  | setLiveParameter
  | setStageBypass
  | writeCurvePoints
  | readCurvePoints
  | writeCabTaps
  | readCabTaps
  | readPool
  | writeSceneHeader
  | writeSection
  | writeStages
  | eraseScene
  | readScene
  | select
  | call
  | ret
  | readContextStatus
  | setTempo
  | tempoReset
  | tap
  | writeFootswitchLine
  | readFootswitchLog
  | writeTunerChannel
  | setTunerEngage
  | setTunerReference
  | writeRoute
  | readRoutes
  | setPanic
  | showLockOn
  | showLockOff
  | permit
  | forceGuardOn
  | forceGuardOff
  | supplyCheck
  | writeLinkFormat
  | readMailboxes
  | readNotices
  | writeNoticeMask
  | readCounters
  | identify
  | restart
  deriving DecidableEq, Repr

/-- The commands of the part, one constructor for each row of the table. -/
inductive Instr where
  /-- POWER_ON (R166): supply rise or the reset line. -/
  | powerOn
  /-- WRITE_CHAIN_INPUT (R3): a good parcel of kind 1 reaches dispatch (R183). -/
  | writeChainInput (tag : Word) (body : List Word)
  /-- SET_LIVE_PARAMETER (R24): a good parcel of kind 2 reaches dispatch (R183). -/
  | setLiveParameter (tag : Word) (body : List Word)
  /-- SET_STAGE_BYPASS (R26): a good parcel of kind 3 reaches dispatch (R183). -/
  | setStageBypass (tag : Word) (body : List Word)
  /-- WRITE_CURVE_POINTS (R39): a good parcel of kind 4 reaches dispatch (R183). -/
  | writeCurvePoints (tag : Word) (body : List Word)
  /-- READ_CURVE_POINTS (R42): a good parcel of kind 5 reaches dispatch (R183). -/
  | readCurvePoints (tag : Word) (body : List Word)
  /-- WRITE_CAB_TAPS (R41): a good parcel of kind 6 reaches dispatch (R183). -/
  | writeCabTaps (tag : Word) (body : List Word)
  /-- READ_CAB_TAPS (R42): a good parcel of kind 7 reaches dispatch (R183). -/
  | readCabTaps (tag : Word) (body : List Word)
  /-- READ_POOL (R62): a good parcel of kind 8 reaches dispatch (R183). -/
  | readPool (tag : Word) (body : List Word)
  /-- WRITE_SCENE_HEADER (R64): a good parcel of kind 9 reaches dispatch (R183). -/
  | writeSceneHeader (tag : Word) (body : List Word)
  /-- WRITE_SECTION (R65): a good parcel of kind 10 reaches dispatch (R183). -/
  | writeSection (tag : Word) (body : List Word)
  /-- WRITE_STAGES (R66): a good parcel of kind 11 reaches dispatch (R183). -/
  | writeStages (tag : Word) (body : List Word)
  /-- ERASE_SCENE (R67): a good parcel of kind 12 reaches dispatch (R183). -/
  | eraseScene (tag : Word) (body : List Word)
  /-- READ_SCENE (R68): a good parcel of kind 13 reaches dispatch (R183). -/
  | readScene (tag : Word) (body : List Word)
  /-- SELECT (R72): a good parcel of kind 14 reaches dispatch (R183). -/
  | select (tag : Word) (body : List Word)
  /-- CALL (R72): a good parcel of kind 15 reaches dispatch (R183). -/
  | call (tag : Word) (body : List Word)
  /-- RETURN (R72): a good parcel of kind 16 reaches dispatch (R183). -/
  | ret (tag : Word) (body : List Word)
  /-- READ_CONTEXT_STATUS (R93): a good parcel of kind 17 reaches dispatch (R183). -/
  | readContextStatus (tag : Word) (body : List Word)
  /-- SET_TEMPO (R99): a good parcel of kind 18 reaches dispatch (R183). -/
  | setTempo (tag : Word) (body : List Word)
  /-- TEMPO_RESET (R102): a good parcel of kind 19 reaches dispatch (R183). -/
  | tempoReset (tag : Word) (body : List Word)
  /-- TAP (R105): a good parcel of kind 20 reaches dispatch (R183). -/
  | tap (tag : Word) (body : List Word)
  /-- WRITE_FOOTSWITCH_LINE (R110): a good parcel of kind 21 reaches dispatch (R183). -/
  | writeFootswitchLine (tag : Word) (body : List Word)
  /-- READ_FOOTSWITCH_LOG (R113): a good parcel of kind 22 reaches dispatch (R183). -/
  | readFootswitchLog (tag : Word) (body : List Word)
  /-- WRITE_TUNER_CHANNEL (R116): a good parcel of kind 23 reaches dispatch (R183). -/
  | writeTunerChannel (tag : Word) (body : List Word)
  /-- SET_TUNER_ENGAGE (R117): a good parcel of kind 24 reaches dispatch (R183). -/
  | setTunerEngage (tag : Word) (body : List Word)
  /-- SET_TUNER_REFERENCE (R120): a good parcel of kind 25 reaches dispatch (R183). -/
  | setTunerReference (tag : Word) (body : List Word)
  /-- WRITE_ROUTE (R133): a good parcel of kind 26 reaches dispatch (R183). -/
  | writeRoute (tag : Word) (body : List Word)
  /-- READ_ROUTES (R145): a good parcel of kind 27 reaches dispatch (R183). -/
  | readRoutes (tag : Word) (body : List Word)
  /-- SET_PANIC (R141): a good parcel of kind 28 reaches dispatch (R183). -/
  | setPanic (tag : Word) (body : List Word)
  /-- SHOW_LOCK_ON (R146): a good parcel of kind 29 reaches dispatch (R183). -/
  | showLockOn (tag : Word) (body : List Word)
  /-- SHOW_LOCK_OFF (R147): a good parcel of kind 30 reaches dispatch (R183). -/
  | showLockOff (tag : Word) (body : List Word)
  /-- PERMIT (R148): a good parcel of kind 31 reaches dispatch (R183). -/
  | permit (tag : Word) (body : List Word)
  /-- FORCE_GUARD_ON (R165): a good parcel of kind 32 reaches dispatch (R183). -/
  | forceGuardOn (tag : Word) (body : List Word)
  /-- FORCE_GUARD_OFF (R165): a good parcel of kind 33 reaches dispatch (R183). -/
  | forceGuardOff (tag : Word) (body : List Word)
  /-- SUPPLY_CHECK (R163): a good parcel of kind 34 reaches dispatch (R183). -/
  | supplyCheck (tag : Word) (body : List Word)
  /-- WRITE_LINK_FORMAT (R178): a good parcel of kind 35 reaches dispatch (R183). -/
  | writeLinkFormat (tag : Word) (body : List Word)
  /-- READ_MAILBOXES (R190): a good parcel of kind 36 reaches dispatch (R183). -/
  | readMailboxes (tag : Word) (body : List Word)
  /-- READ_NOTICES (R193): a good parcel of kind 37 reaches dispatch (R183). -/
  | readNotices (tag : Word) (body : List Word)
  /-- WRITE_NOTICE_MASK (R193): a good parcel of kind 38 reaches dispatch (R183). -/
  | writeNoticeMask (tag : Word) (body : List Word)
  /-- READ_COUNTERS (R195): a good parcel of kind 39 reaches dispatch (R183). -/
  | readCounters (tag : Word) (body : List Word)
  /-- IDENTIFY (R196): a good parcel of kind 40 reaches dispatch (R183). -/
  | identify (tag : Word) (body : List Word)
  /-- RESTART (R197): a good parcel of kind 41 reaches dispatch (R183). -/
  | restart (tag : Word) (body : List Word)
  /-- UNKNOWN_KIND (R186): a good parcel of a kind the part does not accept reaches dispatch. -/
  | unknownKind (kind : BitVec 6) (tag : Word) (body : List Word)
  /-- PARCEL_COMPLETE (R181): the parcel whose last word has arrived is checked and dispatched. -/
  | parcelComplete
  /-- NOTICE (R192): a notice parcel is queued into the empty outbound queue. -/
  | notice
  /-- ENTER_MEASURE (R168): sync has been found at two successive positions in SEARCH. -/
  | enterMeasure
  /-- MEASURE_SYNC_MISSING (R169): an expected position of a measurement shows no sync. -/
  | measureSyncMissing
  /-- MEASUREMENT_COMPLETE (R169): the 64-frame count completes with `count` reference cycles. -/
  | measurementComplete (count : Nat)
  /-- FRAME_RECEIVED (R170): an expected position shows sync, followed by this frame. -/
  | frameReceived (frame : Frame)
  /-- MISSING_SYNC (R173): an expected position in LOCKED shows no sync. -/
  | missingSync
  /-- ENTER_HOLDOVER (R173): the third consecutive expected position without sync. -/
  | enterHoldover
  /-- HOLDOVER_PERIOD (R174): an own frame period in HOLDOVER. -/
  | holdoverPeriod
  /-- HOLDOVER_RETURN (R174): sync at two successive positions in HOLDOVER, with the frame at the second. -/
  | holdoverReturn (frame : Frame)
  /-- HOLDOVER_EXPIRY (R175): the end of the 32nd HOLDOVER period. -/
  | holdoverExpiry
  /-- RATE_DEPARTURE (R170): a span of 64 positions in LOCKED has been timed at `count` reference cycles. -/
  | rateDeparture (count : Nat)
  /-- IDLE_FRAME (R176): an idle outbound frame falls due in SEARCH or MEASURE. -/
  | idleFrame
  /-- TEMPO_RESET_TAKEN (R102): the reset flag is taken at the start of the next processed frame. -/
  | tempoResetTaken
  /-- BEAT (R96): the beat phase has reached the period. -/
  | beat
  /-- SUBDIVISION (R97): the beat phase has crossed a subdivision boundary. -/
  | subdivision
  /-- GOVERNOR_EVALUATION (R155): the evaluation before a frame. -/
  | governorEvaluation
  /-- LOAD_START (R79): the load of the change in flight starts. -/
  | loadStart
  /-- LOAD_COMPLETE (R80): a LOADING context becomes READY. -/
  | loadComplete (chain : Fin 4) (ctx : Fin 2)
  /-- SWITCH (R81): the change in flight switches. -/
  | switch
  /-- DIP_HALFWAY (R159): the chain's dip has reached k = 32. -/
  | dipHalfway (chain : Fin 4)
  /-- FADE_END (R85): the chain's fade has reached its end. -/
  | fadeEnd (chain : Fin 4)
  /-- PENDING_REQUEST_START (R73): the pending request starts. -/
  | pendingRequestStart
  /-- TAIL_END (R59): the context's quiet count has reached 4,096. -/
  | tailEnd (chain : Fin 4) (ctx : Fin 2)
  /-- SPILL_LIMIT (R60): the context's spill count has reached its limit. -/
  | spillLimit (chain : Fin 4) (ctx : Fin 2)
  /-- CUT_COMPLETE (R61): the context's cut position has reached 0. -/
  | cutComplete (chain : Fin 4) (ctx : Fin 2)
  /-- RAMP_END (R137): the slot's ramp position has reached 64. -/
  | rampEnd (slot : Fin 8)
  /-- TUNER_SILENCE (R126): the channel's silence count has reached 9,600. -/
  | tunerSilence (channel : Fin 4)
  /-- MS_TICK (R107): a millisecond tick; bit i of `pins` is the level of FSi at the tick, set for high. -/
  | msTick (pins : BitVec 8)
  /-- HOLD (R109): the line's hold count has reached its hold time. -/
  | hold (line : Fin 8)
  /-- MEASUREMENT_START (R163): a supply measurement starts. -/
  | measurementStart
  /-- SUPPLY_READING (R163): the running measurement completes with the conversions `c1` and `c2`, in units of 2 mV. -/
  | supplyReading (c1 c2 : Int)
  deriving DecidableEq, Repr

end Sys2Proof
end

