-- ==== Sys2Proof/Decode.lean ====
section
/-! DEFINITION. Parcels and their words (R200, R201): the kind codes, the words of a parcel, and the command that a run
of words spells. `decodeTableWord` answers for the rows to which the table gives bits: it gives none to any row. -/

namespace Sys2Proof

/-- The kind code of a kind (Table 11-4). -/
def Kind.code : Kind → BitVec 6
  | .writeChainInput => 1
  | .setLiveParameter => 2
  | .setStageBypass => 3
  | .writeCurvePoints => 4
  | .readCurvePoints => 5
  | .writeCabTaps => 6
  | .readCabTaps => 7
  | .readPool => 8
  | .writeSceneHeader => 9
  | .writeSection => 10
  | .writeStages => 11
  | .eraseScene => 12
  | .readScene => 13
  | .select => 14
  | .call => 15
  | .ret => 16
  | .readContextStatus => 17
  | .setTempo => 18
  | .tempoReset => 19
  | .tap => 20
  | .writeFootswitchLine => 21
  | .readFootswitchLog => 22
  | .writeTunerChannel => 23
  | .setTunerEngage => 24
  | .setTunerReference => 25
  | .writeRoute => 26
  | .readRoutes => 27
  | .setPanic => 28
  | .showLockOn => 29
  | .showLockOff => 30
  | .permit => 31
  | .forceGuardOn => 32
  | .forceGuardOff => 33
  | .supplyCheck => 34
  | .writeLinkFormat => 35
  | .readMailboxes => 36
  | .readNotices => 37
  | .writeNoticeMask => 38
  | .readCounters => 39
  | .identify => 40
  | .restart => 41

/-- The kind that a code names; kinds 0 and 42 to 63 are no command's (R186, R201). -/
def Kind.ofCode (code : BitVec 6) : Option Kind :=
  match code.toNat with
  | 1 => some .writeChainInput
  | 2 => some .setLiveParameter
  | 3 => some .setStageBypass
  | 4 => some .writeCurvePoints
  | 5 => some .readCurvePoints
  | 6 => some .writeCabTaps
  | 7 => some .readCabTaps
  | 8 => some .readPool
  | 9 => some .writeSceneHeader
  | 10 => some .writeSection
  | 11 => some .writeStages
  | 12 => some .eraseScene
  | 13 => some .readScene
  | 14 => some .select
  | 15 => some .call
  | 16 => some .ret
  | 17 => some .readContextStatus
  | 18 => some .setTempo
  | 19 => some .tempoReset
  | 20 => some .tap
  | 21 => some .writeFootswitchLine
  | 22 => some .readFootswitchLog
  | 23 => some .writeTunerChannel
  | 24 => some .setTunerEngage
  | 25 => some .setTunerReference
  | 26 => some .writeRoute
  | 27 => some .readRoutes
  | 28 => some .setPanic
  | 29 => some .showLockOn
  | 30 => some .showLockOff
  | 31 => some .permit
  | 32 => some .forceGuardOn
  | 33 => some .forceGuardOff
  | 34 => some .supplyCheck
  | 35 => some .writeLinkFormat
  | 36 => some .readMailboxes
  | 37 => some .readNotices
  | 38 => some .writeNoticeMask
  | 39 => some .readCounters
  | 40 => some .identify
  | 41 => some .restart
  | _ => none

/-- The marker of a lead word (Table 11-2). -/
def leadMarker : BitVec 4 := 0b1100

/-- The lead word of a parcel: marker, kind, body length (Table 11-2). -/
def leadWord (kind : BitVec 6) (length : Nat) : Word := leadMarker ++ kind ++ BitVec.ofNat 6 length

/-- A word is a lead word when its top four bits hold the marker (R180). -/
def isLead (w : Word) : Bool := w.extractLsb' 12 4 == leadMarker

/-- The kind in a lead word, bits 11 to 6. -/
def leadKind (w : Word) : BitVec 6 := w.extractLsb' 6 6

/-- The body length in a lead word, bits 5 to 0. -/
def leadLength (w : Word) : Nat := (w.extractLsb' 0 6).toNat

/-- The sum of words modulo 65,536 (R181). -/
def wordSum (words : List Word) : Word := words.foldr (· + ·) 0

/-- The check word that brings the sum of a parcel to 0 (R200). -/
def checkWord (words : List Word) : Word := -(wordSum words)

/-- The words of a parcel in order: lead word, tag, body, check word (R200). -/
def parcelWords (kind : BitVec 6) (tag : Word) (body : List Word) : List Word :=
  let words := leadWord kind body.length :: tag :: body
  words ++ [checkWord words]

/-- The parcel that a complete run of words holds, if its sum is 0 (R181): its kind, its tag and its body. -/
def readParcel (words : List Word) : Option (BitVec 6 × Word × List Word) :=
  match words with
  | lead :: tag :: rest => if wordSum words = 0 then some (leadKind lead, tag, rest.dropLast) else none
  | _ => none

/-- The command of a good parcel. -/
def Instr.ofParcel (kind : BitVec 6) (tag : Word) (body : List Word) : Instr :=
  match Kind.ofCode kind with
  | some .writeChainInput => .writeChainInput tag body
  | some .setLiveParameter => .setLiveParameter tag body
  | some .setStageBypass => .setStageBypass tag body
  | some .writeCurvePoints => .writeCurvePoints tag body
  | some .readCurvePoints => .readCurvePoints tag body
  | some .writeCabTaps => .writeCabTaps tag body
  | some .readCabTaps => .readCabTaps tag body
  | some .readPool => .readPool tag body
  | some .writeSceneHeader => .writeSceneHeader tag body
  | some .writeSection => .writeSection tag body
  | some .writeStages => .writeStages tag body
  | some .eraseScene => .eraseScene tag body
  | some .readScene => .readScene tag body
  | some .select => .select tag body
  | some .call => .call tag body
  | some .ret => .ret tag body
  | some .readContextStatus => .readContextStatus tag body
  | some .setTempo => .setTempo tag body
  | some .tempoReset => .tempoReset tag body
  | some .tap => .tap tag body
  | some .writeFootswitchLine => .writeFootswitchLine tag body
  | some .readFootswitchLog => .readFootswitchLog tag body
  | some .writeTunerChannel => .writeTunerChannel tag body
  | some .setTunerEngage => .setTunerEngage tag body
  | some .setTunerReference => .setTunerReference tag body
  | some .writeRoute => .writeRoute tag body
  | some .readRoutes => .readRoutes tag body
  | some .setPanic => .setPanic tag body
  | some .showLockOn => .showLockOn tag body
  | some .showLockOff => .showLockOff tag body
  | some .permit => .permit tag body
  | some .forceGuardOn => .forceGuardOn tag body
  | some .forceGuardOff => .forceGuardOff tag body
  | some .supplyCheck => .supplyCheck tag body
  | some .writeLinkFormat => .writeLinkFormat tag body
  | some .readMailboxes => .readMailboxes tag body
  | some .readNotices => .readNotices tag body
  | some .writeNoticeMask => .writeNoticeMask tag body
  | some .readCounters => .readCounters tag body
  | some .identify => .identify tag body
  | some .restart => .restart tag body
  | none => .unknownKind kind tag body

/-- The kind, tag and body of a parcel command; none for an event. -/
def Instr.toParcel : Instr → Option (BitVec 6 × Word × List Word)
  | .writeChainInput tag body => some (Kind.code .writeChainInput, tag, body)
  | .setLiveParameter tag body => some (Kind.code .setLiveParameter, tag, body)
  | .setStageBypass tag body => some (Kind.code .setStageBypass, tag, body)
  | .writeCurvePoints tag body => some (Kind.code .writeCurvePoints, tag, body)
  | .readCurvePoints tag body => some (Kind.code .readCurvePoints, tag, body)
  | .writeCabTaps tag body => some (Kind.code .writeCabTaps, tag, body)
  | .readCabTaps tag body => some (Kind.code .readCabTaps, tag, body)
  | .readPool tag body => some (Kind.code .readPool, tag, body)
  | .writeSceneHeader tag body => some (Kind.code .writeSceneHeader, tag, body)
  | .writeSection tag body => some (Kind.code .writeSection, tag, body)
  | .writeStages tag body => some (Kind.code .writeStages, tag, body)
  | .eraseScene tag body => some (Kind.code .eraseScene, tag, body)
  | .readScene tag body => some (Kind.code .readScene, tag, body)
  | .select tag body => some (Kind.code .select, tag, body)
  | .call tag body => some (Kind.code .call, tag, body)
  | .ret tag body => some (Kind.code .ret, tag, body)
  | .readContextStatus tag body => some (Kind.code .readContextStatus, tag, body)
  | .setTempo tag body => some (Kind.code .setTempo, tag, body)
  | .tempoReset tag body => some (Kind.code .tempoReset, tag, body)
  | .tap tag body => some (Kind.code .tap, tag, body)
  | .writeFootswitchLine tag body => some (Kind.code .writeFootswitchLine, tag, body)
  | .readFootswitchLog tag body => some (Kind.code .readFootswitchLog, tag, body)
  | .writeTunerChannel tag body => some (Kind.code .writeTunerChannel, tag, body)
  | .setTunerEngage tag body => some (Kind.code .setTunerEngage, tag, body)
  | .setTunerReference tag body => some (Kind.code .setTunerReference, tag, body)
  | .writeRoute tag body => some (Kind.code .writeRoute, tag, body)
  | .readRoutes tag body => some (Kind.code .readRoutes, tag, body)
  | .setPanic tag body => some (Kind.code .setPanic, tag, body)
  | .showLockOn tag body => some (Kind.code .showLockOn, tag, body)
  | .showLockOff tag body => some (Kind.code .showLockOff, tag, body)
  | .permit tag body => some (Kind.code .permit, tag, body)
  | .forceGuardOn tag body => some (Kind.code .forceGuardOn, tag, body)
  | .forceGuardOff tag body => some (Kind.code .forceGuardOff, tag, body)
  | .supplyCheck tag body => some (Kind.code .supplyCheck, tag, body)
  | .writeLinkFormat tag body => some (Kind.code .writeLinkFormat, tag, body)
  | .readMailboxes tag body => some (Kind.code .readMailboxes, tag, body)
  | .readNotices tag body => some (Kind.code .readNotices, tag, body)
  | .writeNoticeMask tag body => some (Kind.code .writeNoticeMask, tag, body)
  | .readCounters tag body => some (Kind.code .readCounters, tag, body)
  | .identify tag body => some (Kind.code .identify, tag, body)
  | .restart tag body => some (Kind.code .restart, tag, body)
  | .unknownKind kind tag body => some (kind, tag, body)
  | .powerOn => none
  | .parcelComplete => none
  | .notice => none
  | .enterMeasure => none
  | .measureSyncMissing => none
  | .measurementComplete _ => none
  | .frameReceived _ => none
  | .missingSync => none
  | .enterHoldover => none
  | .holdoverPeriod => none
  | .holdoverReturn _ => none
  | .holdoverExpiry => none
  | .rateDeparture _ => none
  | .idleFrame => none
  | .tempoResetTaken => none
  | .beat => none
  | .subdivision => none
  | .governorEvaluation => none
  | .loadStart => none
  | .loadComplete _ _ => none
  | .switch => none
  | .dipHalfway _ => none
  | .fadeEnd _ => none
  | .pendingRequestStart => none
  | .tailEnd _ _ => none
  | .spillLimit _ _ => none
  | .cutComplete _ _ => none
  | .rampEnd _ => none
  | .tunerSilence _ => none
  | .msTick _ => none
  | .hold _ => none
  | .measurementStart => none
  | .supplyReading _ _ => none

/-- The lane words that carry a parcel command (R200); none for an event. -/
def Instr.laneWords (i : Instr) : Option (List Word) := i.toParcel.map fun p => parcelWords p.1 p.2.1 p.2.2

/-- The parcel command that a complete run of lane words spells; none where the words are no good parcel. -/
def Instr.ofLaneWords (words : List Word) : Option Instr := (readParcel words).map fun p => Instr.ofParcel p.1 p.2.1 p.2.2

/-- The command that a word spells by the table's bits. The table gives bits to no row. -/
def decodeTableWord (_nbits _w : Nat) : Option Instr := none

end Sys2Proof
end

