-- ==== Sys2Proof/Config.lean ====
section
/-! DEFINITION. The constants fixed in the part, and the values the manual leaves open (free values, without a body). -/

namespace Sys2Proof.Config

/-- Vendor code of *Identify* (Table 11-4, kind 40). -/
def vendorCode : Word := 0x0D5E

/-- Part code of *Identify* (Table 11-4, kind 40). -/
def partCode : Word := 0x04C1

/-- Revision of *Identify* (Table 11-4, kind 40). -/
def revisionCode : Word := 0x0001

/-- The number of blocks of the delay pool (R54). -/
def poolBlocks : Nat := 48

/-- The number of samples of a delay block (R54). -/
def blockSize : Nat := 4096

/-- The number of words the outbound queue holds (R185). -/
def queueWords : Nat := 256

/-- FREE VALUE (log entry 1). The tempo word that *Read Scene* returns for a scene whose tempo is absent: R68 gives the
reply the tempo's word in every case and no rule says what that word holds when there is none. -/
opaque absentTempoWord : Word

/-- FREE VALUE (log entry 2). The second word that the reply to *Write Footswitch Line* carries for an action whose kind,
given by its code, has no parameter: Table 11-4 lays that word out for SELECT, CALL and STAGE_TOGGLE only. -/
opaque spareActionWord : Nat → Word

/-- FREE VALUE (log entry 4). The F that *Read Context Status* reports for a chain whose fade record is NONE: R93 has F
and k reported for every chain, and no rule says what they are without a fade. -/
opaque restFadeLength : Word

/-- FREE VALUE (log entry 4). The k that *Read Context Status* reports for a chain whose fade record is NONE. -/
opaque restFadePosition : Word

/-- FREE VALUE (log entry 8). The k that *Read Routes* carries for a slot with no ramp running: R145 reports the position
when a ramp is running, and Table 11-4 gives every slot a word for it. -/
opaque restRampPosition : Word

end Sys2Proof.Config
end

