-- ==== Sys2Proof/Machine/Arith.lean ====
section
/-! DEFINITION. The arithmetic of 00_scope (saturate, rounded half up, clamping) and the tables indexed by a fixed
number of like things. -/

namespace Sys2Proof.Machine

/-- Saturate (00_scope): clamp a result to the sample value range. -/
def saturate (a : Int) : Int := max sampleMin (min sampleMax a)

/-- a/d rounded half up (00_scope): floor((a + floor(d/2)) ÷ d), for d above 0. -/
def roundDiv (a : Int) (d : Nat) : Int := (a + (d / 2 : Nat)) / (d : Int)

/-- a/d rounded half up, of a dividend that is not negative. -/
def roundDivNat (a d : Nat) : Nat := (a + d / 2) / d

/-- A value clamped to lo … hi (00_scope, Clamping). -/
def clampNat (lo hi a : Nat) : Nat := max lo (min hi a)

/-- A signed value clamped to lo … hi (00_scope, Clamping). -/
def clampInt (lo hi a : Int) : Int := max lo (min hi a)

/-- A signed value clamped to lo … hi, where lo is not negative. -/
def clampToNat (lo hi : Nat) (a : Int) : Nat := clampNat lo hi a.toNat

/-- An index of 0 … n: the values above n are taken as n (R201, Codes). -/
def clampFin (n : Nat) (a : Nat) : Fin (n + 1) := ⟨min a n, Nat.lt_succ_of_le (Nat.min_le_right a n)⟩

/-- An index that is refused when it is out of range (R201, Structural indices). -/
def index? (n : Nat) (a : Nat) : Option (Fin n) := if h : a < n then some ⟨a, h⟩ else none

/-- The table of n things given by their index. -/
def tab {α : Type} {n : Nat} (f : Fin n → α) : Vector α n := ⟨⟨List.ofFn f⟩, by simp⟩

/-- The table with one entry replaced. -/
def upd {α : Type} {n : Nat} (v : Vector α n) (i : Fin n) (x : α) : Vector α n := v.set i x

end Sys2Proof.Machine
end

