-- ==== Sys2Proof/Machine/State.lean ====
section
/-! DEFINITION. Everything the manual gives the part to hold, as plain data, one structure for each block of Table 0-1,
the queue of waiting commands, the reasons a step can stop, and the state after power-on. -/

namespace Sys2Proof.Machine

/-- Why the part stops. No rule of the manual stops the part: every command leaves it in a next state, so this type has
no constructor. Safe: nothing raises a fault. -/
inductive Fault where
  deriving DecidableEq, Repr

/-- Why a command has no meaning in the model. -/
inductive Refusal where
  /-- Raised by `exec` for a command whose meaning is not written yet: safe, since nothing is claimed of it. -/
  | notModelled (mnemonic : String)
  deriving DecidableEq, Repr

/-! ### Stage records (R202) -/

/-- The divisions of the division table (R98, Table 11-5). -/
inductive Division where
  | half | quarter | dottedEighth | quarterTriplet | eighth | sixteenth
  deriving DecidableEq, Repr

/-- The rate mode of a TREMOLO stage (R15). -/
inductive RateMode where
  | free | sync
  deriving DecidableEq, Repr

/-- The mode of a DELAY stage (R45). -/
inductive DelayMode where
  | fixed | sync
  deriving DecidableEq, Repr

/-- The parameters of a DELAY stage (R45). -/
structure DelayParams where
  maxLength : Nat
  mode : DelayMode
  fixedLength : Nat
  division : Division
  feedback : Nat
  wet : Nat
  spill : Bool
  spillLimit : Nat
  deriving DecidableEq, Repr

/-- The kind of a stage with the parameters of its kind (R9, R10, R14, R15, R27, R36, R45). A requested oversampling
and a slot are held as their codes. -/
inductive StageParams where
  | trim (gain : Nat)
  | gate (openLevel closeLevel holdTime : Nat)
  | filter (b0 b1 b2 a1 a2 : Int)
  | tremolo (depth : Nat) (mode : RateMode) (period : Nat) (division : Division)
  | shaper (drive : Nat) (curve : Fin 16) (oversampling : Fin 4) (level : Nat)
  | cab (slot : Fin 8) (taps : Nat)
  | delay (params : DelayParams)
  deriving DecidableEq, Repr

/-- A stage record (R5, R202). -/
structure StageRecord where
  params : StageParams
  bypass : Bool
  sheddable : Bool
  deriving DecidableEq, Repr

/-- The default record of R64: TRIM at unity, both flags clear. -/
def StageRecord.default : StageRecord := { params := .trim 4096, bypass := false, sheddable := false }

/-! ### Scenes (R63) -/

/-- The mode of a chain section (R63). -/
inductive SectionMode where
  | hold | off | run
  deriving DecidableEq, Repr

/-- A chain section of a scene (R63). -/
structure SceneSection where
  mode : SectionMode
  pan : Int
  count : Nat
  stages : Vector StageRecord 12
  deriving DecidableEq, Repr

/-- A present scene slot (R63). -/
structure Scene where
  exponent : Nat
  tempo : Option Nat
  sections : Vector SceneSection 4
  deriving DecidableEq, Repr

/-! ### Contexts (R69) -/

/-- The gate state of a GATE stage (R7). -/
inductive GateState where
  | closed | opened | held
  deriving DecidableEq, Repr

/-- The processing state of a GATE stage (R7). -/
structure GateProc where
  envelope : Nat
  state : GateState
  holdCount : Nat
  gain : Nat
  deriving DecidableEq, Repr

/-- The processing state of a FILTER stage (R7): the inputs and outputs one and two frames back. -/
structure FilterProc where
  x1 : Int
  x2 : Int
  y1 : Int
  y2 : Int
  deriving DecidableEq, Repr

/-- The processing state of a DELAY stage beside its block list (R46, R48, R49). The current read length has no value
until the load completes (R53). -/
structure LineProc where
  fill : Nat
  writePos : Nat
  readLength : Option Nat
  deriving DecidableEq, Repr

/-- The processing state of one stage (Table 1-2). A stage uses the part of its own kind; the other parts stay at
their zeroed values. -/
structure Proc where
  gate : GateProc
  filter : FilterProc
  phase : Nat
  previous : Int
  history : List Int
  line : LineProc
  deriving DecidableEq, Repr

/-- The zeroed processing state (R8, Table 1-2). -/
def Proc.zero : Proc :=
  { gate := { envelope := 0, state := .closed, holdCount := 0, gain := 0 }
    filter := { x1 := 0, x2 := 0, y1 := 0, y2 := 0 }
    phase := 0
    previous := 0
    history := List.replicate 127 0
    line := { fill := 0, writePos := 0, readLength := none } }

/-- One stage of a context: its record, the code of its effective oversampling (R28), its shed mark, its processing
state and its block list (R55). -/
structure Stage where
  record : StageRecord
  effective : Fin 4
  shed : Bool
  proc : Proc
  blocks : List Nat
  deriving DecidableEq, Repr

/-- The context states (R69). -/
inductive CtxState where
  | idle | loading | ready | live | fadingOut | spilling | cutting
  deriving DecidableEq, Repr

/-- A context record (R69) with the counts its state uses: the frames loaded (R80), the spill and quiet counts and
the limit in effect (R58) and the cut position (R61). -/
structure Ctx where
  state : CtxState
  scene : Option (Fin 128)
  pan : Int
  stages : List Stage
  loadCount : Nat
  spillCount : Nat
  quietCount : Nat
  spillLimit : Nat
  cut : Nat
  deriving DecidableEq, Repr

/-- The context in IDLE: scene none and no blocks (R69); the rest is emptied (log entry 3). -/
def Ctx.empty : Ctx :=
  { state := .idle, scene := none, pan := 0, stages := [], loadCount := 0, spillCount := 0, quietCount := 0,
    spillLimit := 0, cut := 0 }

/-- The kinds of fade (R83, R84). -/
inductive FadeKind where
  | none | cross | fadeIn | fadeOut | dipCross | dipIn | dipOut
  deriving DecidableEq, Repr

/-- The fade record of a chain (R83). `halfTaken` is the model's own: the half-way point of the dip has been taken. -/
structure Fade where
  kind : FadeKind
  length : Nat
  k : Nat
  halfTaken : Bool
  deriving DecidableEq, Repr

/-- The fade record at NONE (R83, log entry 4). -/
def Fade.rest : Fade := { kind := .none, length := 0, k := 0, halfTaken := false }

/-! ### The Scene Controller (R63, R71) -/

/-- A scene request (R72). -/
inductive Request where
  | select (scene : Fin 128) (reload : Bool)
  | call (scene : Fin 128)
  | ret
  deriving DecidableEq, Repr

/-- The outcomes of a request (R72). -/
inductive SceneOutcome where
  | switched | empty | absent | alreadyLive | budget | pool | superseded | aborted
  deriving DecidableEq, Repr

/-- The change states (R71). -/
inductive ChangeState where
  | idle | cutting | loading | fading
  deriving DecidableEq, Repr

/-- The request being carried out, its target, the change copy, and each chain's standby context as found at the
start (R70, R71, R76). -/
structure InFlight where
  request : Request
  target : Fin 128
  copy : Scene
  standby : Vector (Fin 2) 4
  deriving DecidableEq, Repr

/-- An outcome as mailbox 6 reports it: the outcome, the request, and the scene the request named or resolved (R92). -/
structure LastOutcome where
  outcome : SceneOutcome
  request : Request
  scene : Option (Fin 128)
  deriving DecidableEq, Repr

/-- SCC's state (R63, R69, R71, R73, R83, R88). The return stack is held newest first. -/
structure Scc where
  scenes : Vector (Option Scene) 128
  ctxs : Vector (Vector Ctx 2) 4
  fades : Vector Fade 4
  change : ChangeState
  inFlight : Option InFlight
  waiting : Option Request
  stack : List (Fin 128)
  live : Option (Fin 128)
  last : Option LastOutcome
  deriving DecidableEq, Repr

/-! ### The Chain Processor and its store (R1, R38) -/

/-- A chain input record (R1); the trim is held as its code, the number of places shifted. -/
structure ChainInput where
  source : Fin 8
  trim : Fin 4
  invert : Bool
  deriving DecidableEq, Repr

/-- A curve slot: its live and shadow copies (R38). -/
structure CurveSlot where
  live : Vector Int 257
  shadow : Vector Int 257
  deriving DecidableEq, Repr

/-- A cabinet slot: its live and shadow copies (R38). -/
structure CabSlot where
  live : Vector Int 128
  shadow : Vector Int 128
  deriving DecidableEq, Repr

/-- CHP's state: the chain input records, the store, and the chain output pairs handed to ORT in the last frame
processed, none for a chain without output (R22). -/
structure Chp where
  inputs : Vector ChainInput 4
  curves : Vector CurveSlot 16
  cabs : Vector CabSlot 8
  outputs : Vector (Option (Int × Int)) 4
  deriving DecidableEq, Repr

/-- DPL's state (R54): the free list, and the samples of the pool as (address, sample) pairs, a block's offset o at
address 4,096 × block + o, addresses strictly rising and no pair holding 0, which an unlisted address reads as
(log entry 5). -/
structure Dpl where
  free : List Nat
  mem : List (Nat × Int)
  deriving DecidableEq, Repr

/-! ### Tempo and footswitches (R94, R103, R106) -/

/-- The source of the last change of the period (R94). -/
inductive TempoSource where
  | default | tap | parcel | scene | rescale
  deriving DecidableEq, Repr

/-- A footswitch action (Table 5-3). -/
inductive Action where
  | none
  | select (scene : Fin 128)
  | call (scene : Fin 128)
  | ret
  | tap
  | tuner
  | panic
  | stageToggle (chain : Fin 4) (stage : Fin 12)
  deriving DecidableEq, Repr

/-- The states of a line (R106, Figure 5-2). -/
inductive LineState where
  | disabled | opened | closedTiming | closedHeld
  deriving DecidableEq, Repr

/-- A line record (R106); the hold time is in units of 10 ms. -/
structure LineRecord where
  enabled : Bool
  closedHigh : Bool
  holdTime : Nat
  press : Action
  hold : Action
  deriving DecidableEq, Repr

/-- A footswitch line: its record, its debouncing (R107) and its state (R106). -/
structure Line where
  record : LineRecord
  high : Bool
  changes : Nat
  state : LineState
  holdCount : Nat
  deferred : Bool
  deriving DecidableEq, Repr

/-- The events of the footswitch log (R112). -/
inductive LogEvent where
  | press | hold | release
  deriving DecidableEq, Repr

/-- An entry of the footswitch log (R112). -/
structure LogEntry where
  line : Fin 8
  event : LogEvent
  time : BitVec 16
  deriving DecidableEq, Repr

/-- TFU's state (R94, R102, R103, R106, R112). `frames` is the count of processed frames. `scan` is the model's own:
the line at which the tick's transitions have stopped because that line's hold count has reached its hold time. -/
structure Tfu where
  period : Nat
  phase : Nat
  group : Nat
  beats : BitVec 8
  sub : Nat
  source : TempoSource
  resetFlag : Bool
  taps : List Nat
  previousTap : Option Nat
  frames : Nat
  lines : Vector Line 8
  log : List LogEntry
  tick : BitVec 16
  scan : Option (Fin 8)
  deriving DecidableEq, Repr

/-! ### The tuner (R115 to R120) -/

/-- The listen modes (R115). -/
inductive ListenMode where
  | off | always | engaged
  deriving DecidableEq, Repr

/-- The channel states (R128). -/
inductive ChannelState where
  | off | noSignal | settling | ready
  deriving DecidableEq, Repr

/-- The measurement state of a channel (R115, R118): times in units of 1/256 sample, oldest first. -/
structure Measure where
  previous : Option Int
  index : Nat
  armRising : Bool
  armFalling : Bool
  rising : List Int
  falling : List Int
  silence : Nat
  deriving DecidableEq, Repr

/-- The measurement state at a start of measurement (R118). -/
def Measure.empty : Measure :=
  { previous := none, index := 0, armRising := false, armFalling := false, rising := [], falling := [], silence := 0 }

/-- The reading of a channel (R115): note, deviation in tenths of a cent, frequency in hundredths of a hertz. -/
structure Reading where
  note : Nat
  deviation : Int
  frequency : Nat
  deriving DecidableEq, Repr

/-- A tuner channel (R115). -/
structure Channel where
  mode : ListenMode
  muteOnEngage : Bool
  state : ChannelState
  measure : Measure
  reading : Reading
  deriving DecidableEq, Repr

/-- TUN's state (R115, R117, R120). -/
structure Tun where
  channels : Vector Channel 4
  engaged : Bool
  reference : Nat
  deriving DecidableEq, Repr

/-! ### The Output Router (R132, R136, R141) -/

/-- The sides of a chain output pair (R19). -/
inductive Side where
  | left | right
  deriving DecidableEq, Repr

/-- A claimant with its source (R134, R136). -/
inductive Source where
  | panic (slot : Option (Fin 8))
  | tuner (chain : Fin 4)
  | chain (chain : Fin 4) (side : Side)
  | direct (slot : Fin 8)
  | fill
  deriving DecidableEq, Repr

/-- A route record (R132). -/
structure Route where
  primary : Option (Fin 4 × Side)
  secondary : Option (Fin 8)
  trim : Nat
  exempt : Bool
  participating : Bool
  deriving DecidableEq, Repr

/-- The owner and the ramp record of a slot (R136, R137). -/
structure SlotOwner where
  owner : Source
  outgoing : Option Source
  k : Nat
  deriving DecidableEq, Repr

/-- ORT's state (R132, R136, R141); the meters stand in mailboxes 9 to 16. -/
structure Ort where
  routes : Vector Route 8
  owners : Vector SlotOwner 8
  panic : Bool
  deriving DecidableEq, Repr

/-! ### The governor and the supply monitor (R152 to R165) -/

/-- The guard states (R164). -/
inductive GuardState where
  | normal | auto | forced
  deriving DecidableEq, Repr

/-- Why a supply measurement starts: on the schedule, at a tick chosen by a request, or both (R163). -/
structure MeasureCause where
  periodic : Bool
  requested : Bool
  deriving DecidableEq, Repr

/-- BGV's state. `evaluate` says that an evaluation event has been taken since the last evaluation (R154); `halvings`,
`sheds` and `bypass` are those of the last evaluation (R155, R162); `schedule` counts the ticks of the 250-tick
schedule; `request` says that a *Supply Check* has chosen the next tick; `starting` is a start that has fallen due at
the last tick; `running` is the measurement under way, whose `requested` also records a joined check (R163). -/
structure Bgv where
  guardState : GuardState
  force : Bool
  recovery : Nat
  reading : Option Nat
  bypass : Vector Bool 4
  halvings : Nat
  sheds : Nat
  dips : Nat
  cuts : Nat
  requestedDemand : Nat
  demand : Nat
  evaluate : Bool
  schedule : Nat
  request : Bool
  starting : Option MeasureCause
  running : Option MeasureCause
  deriving DecidableEq, Repr

/-! ### The Link Interface (R166) -/

/-- The link states (R166). -/
inductive LinkState where
  | search | measure | locked | holdover
  deriving DecidableEq, Repr

/-- The nominal frame rates (R166). -/
inductive Rate where
  | r44100 | r48000 | r88200 | r96000
  deriving DecidableEq, Repr

/-- The slot formats (R178). -/
inductive SlotFormat where
  | left | right
  deriving DecidableEq, Repr

/-- LIF's state (R166): the link record, the run of missing syncs (R173), the HOLDOVER periods begun (R174), the expected
positions that the rate watch has taken of its span in progress (R170), the output
samples of the last two processed frames, which leave two frames after their inbound frame (R176), and the last
outbound frame sent. -/
structure Lif where
  state : LinkState
  rate : Option Rate
  count : Option Nat
  expected : Option (BitVec 8)
  held : Vector Int 8
  outNumber : BitVec 8
  inFormat : SlotFormat
  outFormat : SlotFormat
  misses : Nat
  periods : Nat
  span : Nat
  older : Vector Int 8
  newer : Vector Int 8
  sent : Option Frame
  deriving DecidableEq, Repr

/-! ### The Lane Controller (R180 to R198) -/

/-- The parcel assembler (R180): OUTSIDE, or INSIDE with the words received and the number still to come. -/
inductive Assembler where
  | outside
  | inside (words : List Word) (left : Nat)
  deriving DecidableEq, Repr

/-- A parcel without its check word: the kind code, the tag and the body (R200). -/
structure Parcel where
  kind : BitVec 6
  tag : Word
  body : List Word
  deriving DecidableEq, Repr

/-- The nine counters (Table 10-3). -/
structure Counters where
  laneChecks : Nat
  overruns : Nat
  noise : Nat
  frameChecks : Nat
  slips : Nat
  losses : Nat
  unsupported : Nat
  superseded : Nat
  logOverflows : Nat
  deriving DecidableEq, Repr

/-- A mailbox: its record and its fresh flag (R189). -/
structure Box (α : Type) where
  record : α
  fresh : Bool
  deriving DecidableEq, Repr

/-- The record of mailboxes 0 to 3 (R128). -/
structure TunerRecord where
  state : ChannelState
  reading : Reading
  mute : Bool
  deriving DecidableEq, Repr

/-- The record of mailbox 4 (R114). -/
structure TempoRecord where
  period : Nat
  tempo : Nat
  source : TempoSource
  beats : BitVec 8
  group : Nat
  sub : Nat
  deriving DecidableEq, Repr

/-- The record of mailbox 5 (R162). -/
structure GovernorRecord where
  budget : Nat
  requestedDemand : Nat
  demand : Nat
  guardState : GuardState
  force : Bool
  halvings : Nat
  sheds : Nat
  bypass : Vector Bool 4
  dips : Nat
  cuts : Nat
  deriving DecidableEq, Repr

/-- The record of mailbox 6 (R92). -/
structure SceneRecord where
  live : Option (Fin 128)
  change : ChangeState
  target : Option (Fin 128)
  waiting : Option Request
  last : Option LastOutcome
  depth : Nat
  deriving DecidableEq, Repr

/-- The record of mailbox 7 (R179). -/
structure LinkRecord where
  state : LinkState
  rate : Option Rate
  slips : Nat
  frameChecks : Nat
  deriving DecidableEq, Repr

/-- The record of mailbox 8 (R163). -/
structure SupplyRecord where
  reading : Option Nat
  c1 : Nat
  c2 : Nat
  cause : MeasureCause
  recovery : Nat
  deriving DecidableEq, Repr

/-- The seventeen mailboxes (Table 10-2). -/
structure Mailboxes where
  tuner : Vector (Box TunerRecord) 4
  tempo : Box TempoRecord
  governor : Box GovernorRecord
  scene : Box SceneRecord
  link : Box LinkRecord
  supply : Box SupplyRecord
  meters : Vector (Box Nat) 8
  deriving DecidableEq, Repr

/-- LCT's state (R180 to R198). `arrived` holds the words of a parcel whose last word has been received and that has
not been taken under R181 yet. The outbound queue holds the words still to leave, parcel by parcel; `headSent` says
that words of its first parcel have left. The pending notice set and the mask are held as the class set of R200. -/
structure Lct where
  assembler : Assembler
  arrived : Option (List Word)
  hold : List Parcel
  queue : List (List Word)
  headSent : Bool
  notices : BitVec 8
  mask : BitVec 8
  boxes : Mailboxes
  counters : Counters
  showLocked : Bool
  permit : Bool
  deriving DecidableEq, Repr

/-- The part: its blocks, and the commands that wait, first in first out. -/
structure State where
  lif : Lif
  lct : Lct
  chp : Chp
  dpl : Dpl
  scc : Scc
  tfu : Tfu
  tun : Tun
  ort : Ort
  bgv : Bgv
  pending : List Instr
  deriving DecidableEq, Repr

/-! ### Power-on (R166 and the power-on value of each block's rule) -/

/-- The default curve (R43): point i is saturate((i − 128) × 65,536). -/
def defaultCurve : Vector Int 257 := tab fun i => saturate (((i.val : Int) - 128) * 65536)

/-- The default cabinet (R43): tap 0 just under unity, the rest 0. -/
def defaultCab : Vector Int 128 := tab fun i => if i.val = 0 then sampleMax else 0

/-- LIF at power-on (R166). -/
def Lif.reset : Lif :=
  { state := .search, rate := none, count := none, expected := none, held := Vector.replicate 8 0, outNumber := 0
    inFormat := .left, outFormat := .left, misses := 0, periods := 0, span := 0
    older := Vector.replicate 8 0, newer := Vector.replicate 8 0, sent := none }

/-- CHP at power-on (R1, R43): chain c takes slot c at ×1, not inverted; every slot of the store at its default. -/
def Chp.reset : Chp :=
  { inputs := tab fun c => { source := ⟨c.val, by omega⟩, trim := 0, invert := false }
    curves := Vector.replicate 16 { live := defaultCurve, shadow := defaultCurve }
    cabs := Vector.replicate 8 { live := defaultCab, shadow := defaultCab }
    outputs := Vector.replicate 4 none }

/-- DPL at power-on (R54): the free list holds blocks 0 to 47. -/
def Dpl.reset : Dpl := { free := List.range 48, mem := [] }

/-- SCC at power-on (R63, R69, R71, R83, R88, R92). -/
def Scc.reset : Scc :=
  { scenes := Vector.replicate 128 none
    ctxs := Vector.replicate 4 (Vector.replicate 2 Ctx.empty)
    fades := Vector.replicate 4 Fade.rest
    change := .idle, inFlight := none, waiting := none, stack := [], live := none, last := none }

/-- A line at power-on (R106, R107). -/
def Line.reset : Line :=
  { record := { enabled := false, closedHigh := false, holdTime := 60, press := .none, hold := .none }
    high := true, changes := 0, state := .disabled, holdCount := 0, deferred := false }

/-- TFU at power-on (R94, R102, R103, R106, R112). -/
def Tfu.reset : Tfu :=
  { period := 24000, phase := 0, group := 0, beats := 0, sub := 0, source := .default, resetFlag := false
    taps := [], previousTap := none, frames := 0, lines := Vector.replicate 8 Line.reset, log := [], tick := 0
    scan := none }

/-- The reading before any window has passed (R128). -/
def Reading.zero : Reading := { note := 0, deviation := 0, frequency := 0 }

/-- TUN at power-on (R115, R117, R120, R128). DESIGN CHOICE: a channel that does not measure holds the measurement state
of a start (log entry 39). -/
def Tun.reset : Tun :=
  { channels := Vector.replicate 4
      { mode := .engaged, muteOnEngage := true, state := .off, measure := Measure.empty, reading := Reading.zero }
    engaged := false, reference := 4400 }

/-- ORT at power-on (R132, R136, R141). -/
def Ort.reset : Ort :=
  { routes := Vector.replicate 8
      { primary := none, secondary := none, trim := 32768, exempt := false, participating := true }
    owners := Vector.replicate 8 { owner := .fill, outgoing := none, k := 0 }
    panic := false }

/-- BGV at power-on (R155, R162, R163, R164). -/
def Bgv.reset : Bgv :=
  { guardState := .normal, force := false, recovery := 0, reading := none, bypass := Vector.replicate 4 false
    halvings := 0, sheds := 0, dips := 0, cuts := 0, requestedDemand := 0, demand := 0, evaluate := false
    schedule := 0, request := false, starting := none, running := none }

/-- The mailboxes at power-on (R92, R114, R128, R143, R162, R163, R179): every fresh flag clear (R189). -/
def Mailboxes.reset : Mailboxes :=
  { tuner := Vector.replicate 4 { record := { state := .off, reading := Reading.zero, mute := false }, fresh := false }
    tempo := { record := { period := 24000, tempo := 12000, source := .default, beats := 0, group := 0, sub := 0 },
               fresh := false }
    governor :=
      { record := { budget := 1024, requestedDemand := 0, demand := 0, guardState := .normal, force := false,
                    halvings := 0, sheds := 0, bypass := Vector.replicate 4 false, dips := 0, cuts := 0 },
        fresh := false }
    scene := { record := { live := none, change := .idle, target := none, waiting := none, last := none, depth := 0 },
               fresh := false }
    link := { record := { state := .search, rate := none, slips := 0, frameChecks := 0 }, fresh := false }
    supply :=
      { record := { reading := none, c1 := 0, c2 := 0, cause := { periodic := true, requested := false },
                    recovery := 0 },
        fresh := false }
    meters := Vector.replicate 8 { record := 0, fresh := false } }

/-- The counters at power-on (R194). -/
def Counters.zero : Counters :=
  { laneChecks := 0, overruns := 0, noise := 0, frameChecks := 0, slips := 0, losses := 0, unsupported := 0,
    superseded := 0, logOverflows := 0 }

/-- LCT at power-on (R198): the mask holds every class except BEAT (R192, R200). -/
def Lct.reset : Lct :=
  { assembler := .outside, arrived := none, hold := [], queue := [], headSent := false, notices := 0, mask := 0x7F
    boxes := Mailboxes.reset, counters := Counters.zero, showLocked := false, permit := false }

/-- The part right after power-on, with no command waiting. -/
def State.reset : State :=
  { lif := Lif.reset, lct := Lct.reset, chp := Chp.reset, dpl := Dpl.reset, scc := Scc.reset, tfu := Tfu.reset
    tun := Tun.reset, ort := Ort.reset, bgv := Bgv.reset, pending := [] }

end Sys2Proof.Machine
end

