-- ==== Sys2Proof/Machine/Flags.lean ====
section
/-! DEFINITION. The outbound queue as parcels enter it (R185), the notice classes and the notice parcel (R191, R192,
R200), the counters (R194) and the fresh flags of the mailboxes (R189). -/

namespace Sys2Proof.Machine

/-- The notice classes (R191). -/
inductive NoticeClass where
  | link | scene | foot | tuner | govern | supply | lane | beat
  deriving DecidableEq, Repr

/-- The class set that holds one class alone (Table 11-3). -/
def NoticeClass.bit : NoticeClass → BitVec 8
  | .link => 0x01
  | .scene => 0x02
  | .foot => 0x04
  | .tuner => 0x08
  | .govern => 0x10
  | .supply => 0x20
  | .lane => 0x40
  | .beat => 0x80

/-! ### The outbound queue (R185) -/

/-- The words the outbound queue holds. -/
def queueLength (queue : List (List Word)) : Nat := (queue.map List.length).sum

/-- A parcel is queued whole at the end of the queue (R185). -/
def enqueue (words : List Word) (s : State) : State :=
  { s with lct := { s.lct with queue := s.lct.queue ++ [words] } }

/-! ### Notices (R191, R192) -/

/-- The word of a class set: bits 15–8 are 0 (R200). -/
def classWord (classes : BitVec 8) : Word := (0 : BitVec 8) ++ classes

/-- The pending classes in the mask. -/
def noticeClasses (s : State) : BitVec 8 := s.lct.notices &&& s.lct.mask

/-- A notice falls due: the queue is empty and a pending class is in the mask (R192). -/
def noticeDue (s : State) : Bool := s.lct.queue.isEmpty && noticeClasses s ≠ 0

/-- The notice kind (R200). -/
def noticeKind : BitVec 6 := 63

/-- A notice parcel is queued, and the classes it lists leave the pending set (R192, R200). -/
def takeNotice (s : State) : State :=
  enqueue (parcelWords noticeKind 0 [classWord (noticeClasses s)])
    { s with lct := { s.lct with notices := s.lct.notices &&& ~~~s.lct.mask, headSent := false } }

/-- A notice that has fallen due is queued (R192). -/
def noticeIfDue (s : State) : State := if noticeDue s then takeNotice s else s

/-- A class is in the pending notice set, masked or not (R191). -/
def setClass (c : NoticeClass) (s : State) : State :=
  { s with lct := { s.lct with notices := s.lct.notices ||| c.bit } }

/-- A class joins the pending notice set. A notice that an earlier class has made due is queued before it, so that it
does not list the new class (R191, R192; log entry 41). -/
def raise (c : NoticeClass) (s : State) : State := setClass c (noticeIfDue s)

/-- A class joins the pending notice set if the condition holds. -/
def raiseIf (p : Bool) (c : NoticeClass) (s : State) : State := if p then raise c s else s

/-- A class is in the pending set (R191). -/
def classPending (c : NoticeClass) (s : State) : Bool := s.lct.notices &&& c.bit ≠ 0

/-- A class that one moment sets several times joins the pending notice set once: set while it is in the set it leaves
the set as it was, and no notice is queued for what is the same moment (R191, R192; log entry 41). -/
def raiseOnceIf (p : Bool) (c : NoticeClass) (s : State) : State := raiseIf (p && !classPending c s) c s

/-- A counter rises by 1 and stays at 65,535 once it reaches it (R194). -/
def countUp (n : Nat) : Nat := min 65535 (n + 1)

/-- The counters after an update. -/
def setCounters (f : Counters → Counters) (s : State) : State :=
  { s with lct := { s.lct with counters := f s.lct.counters } }

/-- The mailboxes after an update. -/
def setBoxes (f : Mailboxes → Mailboxes) (s : State) : State :=
  { s with lct := { s.lct with boxes := f s.lct.boxes } }

/-- A producer's write replaces the whole record and sets the fresh flag (R189). -/
def Box.write {α : Type} (r : α) : Box α := { record := r, fresh := true }

/-- A read leaves the record and clears the fresh flag (R190). -/
def Box.clear {α : Type} (b : Box α) : Box α := { b with fresh := false }

end Sys2Proof.Machine
end

