-- ==== Sys2Proof/Machine/Ops.lean ====
section
/-! DEFINITION. The operations every block shares: the rate in force, the samples of the pool and its free list, the
records of the contexts, and the taking of an evaluation event. -/

namespace Sys2Proof.Machine

/-! ### The rate in force (00_scope, R166) -/

/-- Frames per second of a nominal rate. -/
def Rate.hz : Rate → Nat
  | .r44100 => 44100
  | .r48000 => 48000
  | .r88200 => 88200
  | .r96000 => 96000

/-- The rates of the double-rate group. -/
def Rate.double : Rate → Bool
  | .r44100 => false
  | .r48000 => false
  | .r88200 => true
  | .r96000 => true

/-- *rate* in the formulas: 48,000 while no rate has been measured (R166). -/
def State.hz (s : State) : Nat := (s.lif.rate.getD .r48000).hz

/-- Frames are processed in LOCKED and HOLDOVER (R4). -/
def LinkState.processing : LinkState → Bool
  | .search => false
  | .measure => false
  | .locked => true
  | .holdover => true

/-! ### The samples of the pool (R46, R49) -/

/-- The sample at an address; an unlisted address reads as 0 (log entry 5). -/
def memRead : List (Nat × Int) → Nat → Int
  | [], _ => 0
  | (k, v) :: m, a => if k = a then v else memRead m a

/-- The store of a sample at an address. It keeps the addresses rising and lists no 0. -/
def memWrite : List (Nat × Int) → Nat → Int → List (Nat × Int)
  | [], a, v => if v = 0 then [] else [(a, v)]
  | (k, w) :: m, a, v =>
    if a < k then (if v = 0 then (k, w) :: m else (a, v) :: (k, w) :: m)
    else if a = k then (if v = 0 then m else (a, v) :: m)
    else (k, w) :: memWrite m a v

/-- The canonical form of the samples: addresses strictly rising, none listed as 0. -/
def Memory.wf : List (Nat × Int) → Bool
  | [] => true
  | [(_, v)] => v ≠ 0
  | (a, v) :: (b, w) :: m => v ≠ 0 && a < b && Memory.wf ((b, w) :: m)

/-- The address of position p of a line: block floor(p/4,096) of its list, offset p mod 4,096 (R46). -/
def lineAddress (blocks : List Nat) (p : Nat) : Nat :=
  blocks.getD (p / Config.blockSize) 0 * Config.blockSize + p % Config.blockSize

/-! ### The free list (R54 to R56) -/

/-- A block put back on the free list at its place in ascending order (R56). -/
def insertBlock (b : Nat) : List Nat → List Nat
  | [] => [b]
  | f :: free => if b < f then b :: f :: free else f :: insertBlock b free

/-- Blocks put back on the free list (R56). -/
def freeBlocks (blocks free : List Nat) : List Nat := blocks.foldr insertBlock free

/-- ceil(Lmax/4,096) (R46). -/
def blocksFor (maxLength : Nat) : Nat := (maxLength + Config.blockSize - 1) / Config.blockSize

/-! ### Stages and contexts (R69) -/

/-- The number of sub-samples a code of Table 11-5 stands for: 1, 2, 4 or 8. -/
def oversampling (code : Fin 4) : Nat := 2 ^ code.val

/-- The code of the oversampling a stage requests; 0 for a stage that is no SHAPER. -/
def StageRecord.requested (r : StageRecord) : Fin 4 :=
  match r.params with
  | .shaper _ _ code _ => code
  | _ => 0

/-- The blocks a stage record needs: those of a DELAY's maximum length (R46). -/
def StageRecord.need (r : StageRecord) : Nat :=
  match r.params with
  | .delay p => blocksFor p.maxLength
  | _ => 0

/-- A spill-flagged DELAY stage. -/
def StageRecord.spills (r : StageRecord) : Bool :=
  match r.params with
  | .delay p => p.spill
  | _ => false

/-- A stage computes when its bypass flag is clear and it carries no shed mark (R6). -/
def Stage.computes (st : Stage) : Bool := !st.record.bypass && !st.shed

/-- The blocks a context holds. -/
def Ctx.blocks (c : Ctx) : List Nat := c.stages.flatMap Stage.blocks

/-- A context with a spill-flagged DELAY stage (R85). -/
def Ctx.spills (c : Ctx) : Bool := c.stages.any fun st => st.record.spills

/-- The blocks of the stages that are no spill-flagged DELAY (R56). -/
def Ctx.dryBlocks (c : Ctx) : List Nat := (c.stages.filter fun st => !st.record.spills).flatMap Stage.blocks

/-- The context with the block lists of its other stages emptied: only spill-flagged DELAY stages hold blocks in a
tail (R56). -/
def Ctx.keepSpill (c : Ctx) : Ctx :=
  { c with stages := c.stages.map fun st => if st.record.spills then st else { st with blocks := [] } }

/-- The spill limit in effect: the largest limit among the spill-flagged stages, times 64 frames (R58). -/
def Ctx.limit (c : Ctx) : Nat :=
  64 * (c.stages.foldr (fun st m => match st.record.params with
    | .delay p => if p.spill then max p.spillLimit m else m
    | _ => m) 0)

/-- The context as it enters SPILLING, with both counts at 0 (R58). -/
def Ctx.toSpilling (c : Ctx) : Ctx :=
  { c.keepSpill with state := .spilling, spillCount := 0, quietCount := 0, spillLimit := c.limit }

/-- The context as it enters CUTTING, with its cut position at 64 (R61). It discards the spill counts (R58). -/
def Ctx.toCutting (c : Ctx) : Ctx :=
  { c.keepSpill with state := .cutting, spillCount := 0, quietCount := 0, spillLimit := 0, cut := 64 }

/-- A context of a chain. -/
def Scc.ctx (t : Scc) (c : Fin 4) (x : Fin 2) : Ctx := t.ctxs[c][x]

/-- The contexts with one replaced. -/
def setCtx (ctxs : Vector (Vector Ctx 2) 4) (c : Fin 4) (x : Fin 2) (k : Ctx) : Vector (Vector Ctx 2) 4 :=
  upd ctxs c (upd ctxs[c] x k)

/-- Every context, chain by chain. -/
def allCtxs : List (Fin 4 × Fin 2) := [(0, 0), (0, 1), (1, 0), (1, 1), (2, 0), (2, 1), (3, 0), (3, 1)]

/-- The chains in ascending order. -/
def chains : List (Fin 4) := [0, 1, 2, 3]

/-- The LIVE context of a chain, if it has one (R69). -/
def liveCtx (cs : Vector Ctx 2) : Option (Fin 2) :=
  if cs[(0 : Fin 2)].state = .live then some 0 else if cs[(1 : Fin 2)].state = .live then some 1 else none

/-- The FADING_OUT context of a chain, if it has one. -/
def fadingCtx (cs : Vector Ctx 2) : Option (Fin 2) :=
  if cs[(0 : Fin 2)].state = .fadingOut then some 0 else if cs[(1 : Fin 2)].state = .fadingOut then some 1 else none

/-- A context record replaced. -/
def putCtx (c : Fin 4) (x : Fin 2) (k : Ctx) (s : State) : State :=
  { s with scc := { s.scc with ctxs := setCtx s.scc.ctxs c x k } }

/-- Blocks put back on the free list of the pool (R56). -/
def releaseBlocks (blocks : List Nat) (s : State) : State :=
  { s with dpl := { s.dpl with free := freeBlocks blocks s.dpl.free } }

/-- A context goes to IDLE and all its blocks are freed (R56). -/
def idleCtx (c : Fin 4) (x : Fin 2) (s : State) : State :=
  releaseBlocks (s.scc.ctx c x).blocks (putCtx c x Ctx.empty s)

/-- A context goes to CUTTING; the blocks of its stages that are no spill-flagged DELAY are freed (R61). -/
def cutCtx (c : Fin 4) (x : Fin 2) (s : State) : State :=
  releaseBlocks (s.scc.ctx c x).dryBlocks (putCtx c x (s.scc.ctx c x).toCutting s)

/-- A context goes to SPILLING; the blocks of its stages that are no spill-flagged DELAY are freed (R56, R85). -/
def spillCtx (c : Fin 4) (x : Fin 2) (s : State) : State :=
  releaseBlocks (s.scc.ctx c x).dryBlocks (putCtx c x (s.scc.ctx c x).toSpilling s)

/-- An outgoing context whose part has ended leaves its fade: to SPILLING with a spill-flagged DELAY stage, else to
IDLE (R85). -/
def leaveFade (c : Fin 4) (x : Fin 2) (s : State) : State :=
  if (s.scc.ctx c x).spills then spillCtx c x s else idleCtx c x s

/-- A chain's fade record replaced. -/
def setFade (c : Fin 4) (f : Fade) (s : State) : State :=
  { s with scc := { s.scc with fades := upd s.scc.fades c f } }

end Sys2Proof.Machine
end

