-- ==== Sys2Proof/Machine/Operands.lean ====
section
/-! DEFINITION. The fields of parcel bodies and replies (R201), the stage record (R202), and the mailbox records
(R203): how words are read into values and values written into words. -/

namespace Sys2Proof.Machine

/-! ### Fields (R201) -/

/-- The word of a number. -/
def word (n : Nat) : Word := BitVec.ofNat 16 n

/-- The word of a signed number. -/
def signedWord (z : Int) : Word := BitVec.ofInt 16 z

/-- The two words of a 2w field, high word first. -/
def twoWords (z : Int) : List Word :=
  let d := BitVec.ofInt 32 z
  [d.extractLsb' 16 16, d.extractLsb' 0 16]

/-- Body word i. -/
def bodyWord (body : List Word) (i : Nat) : Word := body.getD i 0

/-- Body word i as a number. -/
def bodyNat (body : List Word) (i : Nat) : Nat := (bodyWord body i).toNat

/-- Body word i as a flag: bit 0, the other bits ignored. -/
def bodyFlag (body : List Word) (i : Nat) : Bool := (bodyWord body i).getLsbD 0

/-- The 2w field at body words i and i + 1. -/
def bodyTwo (body : List Word) (i : Nat) : BitVec 32 := bodyWord body i ++ bodyWord body (i + 1)

/-- The word of a flag. -/
def flagWord (b : Bool) : Word := if b then 1 else 0

/-- n if the flag is set, else 0. -/
def bitIf (b : Bool) (n : Nat) : Nat := if b then n else 0

/-- The curve point or cabinet tap carried in a word. -/
def pointOf (w : Word) : Int := if w = 0x7FFF then sampleMax else w.toInt * 256

/-- The word that carries a curve point or cabinet tap. -/
def pointWord (v : Int) : Word := if v = sampleMax then 0x7FFF else signedWord (v / 256)

/-- A scene number in a reply; 255 stands for none. -/
def sceneByte (n : Option (Fin 128)) : Nat :=
  match n with
  | some k => k.val
  | none => 255

/-! ### Codes (Table 11-5) -/

/-- The division of a code; a code above 5 is taken as 5. -/
def divisionOf (code : Nat) : Division :=
  match code with
  | 0 => .half
  | 1 => .quarter
  | 2 => .dottedEighth
  | 3 => .quarterTriplet
  | 4 => .eighth
  | _ => .sixteenth

/-- The code of a division. -/
def Division.code : Division → Nat
  | .half => 0
  | .quarter => 1
  | .dottedEighth => 2
  | .quarterTriplet => 3
  | .eighth => 4
  | .sixteenth => 5

/-- The rate mode of a code. -/
def rateModeOf (code : Nat) : RateMode := if code = 0 then .free else .sync

/-- The code of a rate mode. -/
def RateMode.code : RateMode → Nat
  | .free => 0
  | .sync => 1

/-- The delay mode of a code. -/
def delayModeOf (code : Nat) : DelayMode := if code = 0 then .fixed else .sync

/-- The code of a delay mode. -/
def DelayMode.code : DelayMode → Nat
  | .fixed => 0
  | .sync => 1

/-- The section mode of a code. -/
def sectionModeOf (code : Nat) : SectionMode :=
  match code with
  | 0 => .hold
  | 1 => .off
  | _ => .run

/-- The code of a section mode. -/
def SectionMode.code : SectionMode → Nat
  | .hold => 0
  | .off => 1
  | .run => 2

/-- The listen mode of a code. -/
def listenModeOf (code : Nat) : ListenMode :=
  match code with
  | 0 => .off
  | 1 => .always
  | _ => .engaged

/-- The code of a listen mode. -/
def ListenMode.code : ListenMode → Nat
  | .off => 0
  | .always => 1
  | .engaged => 2

/-- The slot format of a code. -/
def slotFormatOf (code : Nat) : SlotFormat := if code = 0 then .left else .right

/-- The code of a slot format. -/
def SlotFormat.code : SlotFormat → Nat
  | .left => 0
  | .right => 1

/-- The flag after an engage or panic action of a code: off, on, or toggle. -/
def flagAction (code : Nat) (flag : Bool) : Bool :=
  match code with
  | 0 => false
  | 1 => true
  | _ => !flag

/-- The code of a context state. -/
def CtxState.code : CtxState → Nat
  | .idle => 0
  | .loading => 1
  | .ready => 2
  | .live => 3
  | .fadingOut => 4
  | .spilling => 5
  | .cutting => 6

/-- The code of a fade kind. -/
def FadeKind.code : FadeKind → Nat
  | .none => 0
  | .cross => 1
  | .fadeIn => 2
  | .fadeOut => 3
  | .dipCross => 4
  | .dipIn => 5
  | .dipOut => 6

/-! ### The stage record (R202) -/

/-- A FILTER coefficient from the word with its bits 23–8 and the byte with its bits 7–0. -/
def coefficientOf (high : Word) (low : BitVec 8) : Int := (high ++ low : BitVec 24).toInt

/-- The high byte of a word. -/
def highByte (w : Word) : BitVec 8 := w.extractLsb' 8 8

/-- The low byte of a word. -/
def lowByte (w : Word) : BitVec 8 := w.extractLsb' 0 8

/-- The parameters of a kind code from the words of a record, each clamped to its range (R202). -/
def paramsOf (kind : Nat) (r : List Word) (spill : Bool) : StageParams :=
  match kind with
  | 0 => .trim (clampNat 0 32767 (bodyNat r 1))
  | 1 => .gate (clampNat 0 8388607 (bodyTwo r 1).toNat) (clampNat 0 8388607 (bodyTwo r 3).toNat) (bodyNat r 5)
  | 2 => .filter
      (coefficientOf (bodyWord r 1) (highByte (bodyWord r 6))) (coefficientOf (bodyWord r 2) (lowByte (bodyWord r 6)))
      (coefficientOf (bodyWord r 3) (highByte (bodyWord r 7))) (coefficientOf (bodyWord r 4) (lowByte (bodyWord r 7)))
      (coefficientOf (bodyWord r 5) (highByte (bodyWord r 8)))
  | 3 => .tremolo (clampNat 0 256 (bodyNat r 1)) (rateModeOf (bodyNat r 2)) (clampNat 480 96000 (bodyTwo r 3).toNat)
      (divisionOf (bodyNat r 5))
  | 4 => .shaper (clampNat 256 16384 (bodyNat r 1)) (clampFin 15 (bodyNat r 2)) (clampFin 3 (bodyNat r 3)) (bodyNat r 4)
  | 5 => .cab (clampFin 7 (bodyNat r 1)) (clampNat 1 128 (bodyNat r 2))
  | _ => .delay
      { maxLength := clampNat 1 131072 (bodyTwo r 1).toNat, mode := delayModeOf (bodyNat r 3)
        fixedLength := clampNat 1 131072 (bodyTwo r 4).toNat, division := divisionOf (bodyNat r 6)
        feedback := clampNat 0 31130 (bodyNat r 7), wet := clampNat 0 32767 (bodyNat r 8), spill := spill
        spillLimit := clampNat 1 4095 (bodyNat r 9) }

/-- The stage record that ten words store (R202). -/
def recordOf (r : List Word) : StageRecord :=
  let w := bodyWord r 0
  { params := paramsOf (w.extractLsb' 0 3).toNat r (w.getLsbD 5), bypass := w.getLsbD 3, sheddable := w.getLsbD 4 }

/-- The kind code of a stage's parameters (R202). -/
def StageParams.kind : StageParams → Nat
  | .trim _ => 0
  | .gate _ _ _ => 1
  | .filter _ _ _ _ _ => 2
  | .tremolo _ _ _ _ => 3
  | .shaper _ _ _ _ => 4
  | .cab _ _ => 5
  | .delay _ => 6

/-- The word with bits 23–8 of a coefficient. -/
def coefficientHigh (z : Int) : Word := (BitVec.ofInt 24 z).extractLsb' 8 16

/-- The byte with bits 7–0 of a coefficient. -/
def coefficientLow (z : Int) : BitVec 8 := (BitVec.ofInt 24 z).extractLsb' 0 8

/-- Words 1 to 9 of a record; a word that the kind does not use is 0 (R202). -/
def paramWords : StageParams → List Word
  | .trim g => [word g, 0, 0, 0, 0, 0, 0, 0, 0]
  | .gate lo lcl h => twoWords lo ++ twoWords lcl ++ [word h, 0, 0, 0, 0]
  | .filter b0 b1 b2 a1 a2 =>
    [coefficientHigh b0, coefficientHigh b1, coefficientHigh b2, coefficientHigh a1, coefficientHigh a2,
      coefficientLow b0 ++ coefficientLow b1, coefficientLow b2 ++ coefficientLow a1,
      coefficientLow a2 ++ (0 : BitVec 8), 0]
  | .tremolo depth mode period division =>
    [word depth, word mode.code] ++ twoWords period ++ [word division.code, 0, 0, 0, 0]
  | .shaper d curve code level => [word d, word curve.val, word code.val, word level, 0, 0, 0, 0, 0]
  | .cab slot taps => [word slot.val, word taps, 0, 0, 0, 0, 0, 0, 0]
  | .delay p =>
    twoWords p.maxLength ++ [word p.mode.code] ++ twoWords p.fixedLength ++
      [word p.division.code, word p.feedback, word p.wet, word p.spillLimit]

/-- The spill flag of word 0: stored as 0 for a kind other than DELAY (R202). -/
def StageParams.spill : StageParams → Bool
  | .delay p => p.spill
  | .trim _ => false
  | .gate _ _ _ => false
  | .filter _ _ _ _ _ => false
  | .tremolo _ _ _ _ => false
  | .shaper _ _ _ _ => false
  | .cab _ _ => false

/-- The ten words of a stage record as stored (R202). -/
def recordWords (r : StageRecord) : List Word :=
  word (r.params.kind + bitIf r.bypass 8 + bitIf r.sheddable 16 + bitIf r.params.spill 32) :: paramWords r.params

/-! ### Footswitch actions and routes (R201) -/

/-- The action of its two words: the kind code, and the parameters, clamped (R110). -/
def actionOf (kind parameter : Word) : Action :=
  match kind.toNat with
  | 0 => .none
  | 1 => .select (clampFin 127 (lowByte parameter).toNat)
  | 2 => .call (clampFin 127 (lowByte parameter).toNat)
  | 3 => .ret
  | 4 => .tap
  | 5 => .tuner
  | 6 => .panic
  | _ => .stageToggle (clampFin 3 (highByte parameter).toNat) (clampFin 11 (lowByte parameter).toNat)

/-- The two words of an action as stored; the second word of an action without a parameter is a free value (log
entry 2). -/
def actionWords : Action → List Word
  | .none => [0, Config.spareActionWord 0]
  | .select n => [1, word n.val]
  | .call n => [2, word n.val]
  | .ret => [3, Config.spareActionWord 3]
  | .tap => [4, Config.spareActionWord 4]
  | .tuner => [5, Config.spareActionWord 5]
  | .panic => [6, Config.spareActionWord 6]
  | .stageToggle c i => [7, word (c.val * 256 + i.val)]

/-- The line record of the body of *Write Footswitch Line* (R110). -/
def lineRecordOf (body : List Word) : LineRecord :=
  { enabled := bodyFlag body 1, closedHigh := bodyFlag body 2, holdTime := clampNat 20 200 (bodyNat body 3)
    press := actionOf (bodyWord body 4) (bodyWord body 5), hold := actionOf (bodyWord body 6) (bodyWord body 7) }

/-- The body of *Write Footswitch Line* as stored. -/
def lineRecordWords (line : Fin 8) (r : LineRecord) : List Word :=
  [word line.val, flagWord r.enabled, flagWord r.closedHigh, word r.holdTime] ++ actionWords r.press ++ actionWords r.hold

/-- The side of a bit: 0 for L, 1 for R. -/
def sideOf (right : Bool) : Side := if right then .right else .left

/-- The bit of a side. -/
def Side.bit : Side → Nat
  | .left => 0
  | .right => 1

/-- The primary of a primary word; the chain is clamped (R133). -/
def primaryOf (w : Word) : Option (Fin 4 × Side) :=
  if w.getLsbD 15 then none else some (clampFin 3 (lowByte w).toNat, sideOf (w.getLsbD 8))

/-- The secondary of a secondary word; the slot is clamped (R133). -/
def secondaryOf (w : Word) : Option (Fin 8) := if w.getLsbD 15 then none else some (clampFin 7 (lowByte w).toNat)

/-- The word of a primary. -/
def primaryWord : Option (Fin 4 × Side) → Word
  | none => 0x8000
  | some p => word (p.1.val + 256 * p.2.bit)

/-- The word of a secondary. -/
def secondaryWord : Option (Fin 8) → Word
  | none => 0x8000
  | some i => word i.val

/-- The route record of the body of *Write Route* (R133). -/
def routeOf (body : List Word) : Route :=
  { primary := primaryOf (bodyWord body 1), secondary := secondaryOf (bodyWord body 2), trim := bodyNat body 3
    exempt := (bodyWord body 4).getLsbD 0, participating := (bodyWord body 4).getLsbD 1 }

/-- Primary, secondary, trim and flags of a route record. -/
def routeWords (r : Route) : List Word :=
  [primaryWord r.primary, secondaryWord r.secondary, word r.trim, word (bitIf r.exempt 1 + bitIf r.participating 2)]

/-- The code of a claimant (Table 11-5). -/
def Source.claimant : Source → Nat
  | .panic _ => 0
  | .tuner _ => 1
  | .chain _ _ => 2
  | .direct _ => 3
  | .fill => 4

/-- The four bits of a source in an owner word (R201). -/
def Source.bits : Source → Nat
  | .panic (some i) => i.val
  | .panic none => 8
  | .tuner c => c.val
  | .chain c side => c.val + 4 * side.bit
  | .direct i => i.val
  | .fill => 0

/-- The owner word of a slot: claimant, source, outgoing claimant (7 for none) and outgoing source (R201). -/
def ownerWord (o : SlotOwner) : Word :=
  match o.outgoing with
  | some out => word (o.owner.claimant + 16 * o.owner.bits + 256 * out.claimant + 4096 * out.bits)
  | none => word (o.owner.claimant + 16 * o.owner.bits + 256 * 7)

/-- The position word of a slot in *Read Routes*; with no ramp running it is a free value (R145, log entry 8). -/
def rampWord (o : SlotOwner) : Word :=
  match o.outgoing with
  | some _ => word o.k
  | none => Config.restRampPosition

/-- The six words of a slot in *Read Routes* (R201). -/
def slotRouteWords (r : Route) (o : SlotOwner) : List Word := routeWords r ++ [ownerWord o, rampWord o]

/-! ### The log, the pool and the contexts (R201) -/

/-- The code of a log event. -/
def LogEvent.code : LogEvent → Nat
  | .press => 0
  | .hold => 1
  | .release => 2

/-- The two words of a log entry. -/
def logWords (e : LogEntry) : List Word := [word (e.line.val + 16 * e.event.code), e.time]

/-- The holder of a block: the chain, context and stage index whose block list holds it; none for a free block. -/
def holderOf (ctxs : Vector (Vector Ctx 2) 4) (b : Nat) : Option (Fin 4 × Fin 2 × Nat) :=
  match allCtxs.find? fun cx => ctxs[cx.1][cx.2].blocks.contains b with
  | some cx => some (cx.1, cx.2, ctxs[cx.1][cx.2].stages.findIdx fun st => st.blocks.contains b)
  | none => none

/-- The byte of a block in a pool holder word. -/
def holderByte (ctxs : Vector (Vector Ctx 2) 4) (b : Nat) : Nat :=
  match holderOf ctxs b with
  | some h => 32 * h.1.val + 16 * h.2.1.val + h.2.2
  | none => 128

/-- The 24 holder words of *Read Pool*. -/
def holderWords (ctxs : Vector (Vector Ctx 2) 4) : List Word :=
  (List.range 24).map fun j => word (256 * holderByte ctxs (2 * j) + holderByte ctxs (2 * j + 1))

/-- The 4-bit group of a stage in *Read Context Status*: effective oversampling code and shed mark. -/
def Stage.marks (st : Stage) : Nat := st.effective.val + bitIf st.shed 4

/-- The 4-bit group of stage position i of a context; 0 where there is no stage. -/
def Ctx.marksAt (c : Ctx) (i : Nat) : Nat :=
  match c.stages[i]? with
  | some st => st.marks
  | none => 0

/-- The stage word of stages i to i + 3. -/
def Ctx.marksWord (c : Ctx) (i : Nat) : Word :=
  word (c.marksAt i + 16 * c.marksAt (i + 1) + 256 * c.marksAt (i + 2) + 4096 * c.marksAt (i + 3))

/-- The five words of a context in *Read Context Status*. -/
def ctxWords (c : Ctx) : List Word :=
  [word (c.state.code + 256 * c.stages.length), word (sceneByte c.scene + 256 * c.blocks.length), c.marksWord 0,
    c.marksWord 4, c.marksWord 8]

/-- F and k in *Read Context Status*; of a chain without a fade they are free values (R93, log entry 4). -/
def fadeWords (f : Fade) : List Word :=
  if f.kind = .none then [Config.restFadeLength, Config.restFadePosition] else [word f.length, word f.k]

/-- The thirteen words of a chain in *Read Context Status*. -/
def chainWords (bypassed : Bool) (f : Fade) (cs : Vector Ctx 2) : List Word :=
  [word (f.kind.code + bitIf bypassed 32768)] ++ fadeWords f ++ ctxWords cs[(0 : Fin 2)] ++ ctxWords cs[(1 : Fin 2)]

/-! ### Mailbox records (R203) -/

/-- The code of a channel state. -/
def ChannelState.code : ChannelState → Nat
  | .off => 0
  | .noSignal => 1
  | .settling => 2
  | .ready => 3

/-- The record of mailboxes 0 to 3. -/
def TunerRecord.words (r : TunerRecord) : List Word :=
  [word (r.state.code + bitIf r.mute 4 + 256 * r.reading.note), signedWord r.reading.deviation] ++
    twoWords r.reading.frequency

/-- The code of a tempo source. -/
def TempoSource.code : TempoSource → Nat
  | .default => 0
  | .tap => 1
  | .parcel => 2
  | .scene => 3
  | .rescale => 4

/-- The record of mailbox 4. -/
def TempoRecord.words (r : TempoRecord) : List Word :=
  twoWords r.period ++ [word r.tempo, word (r.source.code + 256 * r.beats.toNat), word (r.group + 256 * r.sub)]

/-- The code of a guard state. -/
def GuardState.code : GuardState → Nat
  | .normal => 0
  | .auto => 1
  | .forced => 2

/-- The set of bypassed chains, chain c at bit 4 + c. -/
def bypassBits (b : Vector Bool 4) : Nat :=
  bitIf b[(0 : Fin 4)] 16 + bitIf b[(1 : Fin 4)] 32 + bitIf b[(2 : Fin 4)] 64 + bitIf b[(3 : Fin 4)] 128

/-- The record of mailbox 5. -/
def GovernorRecord.words (r : GovernorRecord) : List Word :=
  [word r.budget, word r.requestedDemand, word r.demand, word r.halvings, word r.sheds,
    word (r.guardState.code + bitIf r.force 4 + bypassBits r.bypass), word (256 * r.dips + r.cuts)]

/-- The code of a change state. -/
def ChangeState.code : ChangeState → Nat
  | .idle => 0
  | .cutting => 1
  | .loading => 2
  | .fading => 3

/-- The code of a request's kind. -/
def Request.code : Request → Nat
  | .select _ _ => 1
  | .call _ => 2
  | .ret => 3

/-- The code of an outcome. -/
def SceneOutcome.code : SceneOutcome → Nat
  | .switched => 1
  | .empty => 2
  | .absent => 3
  | .alreadyLive => 4
  | .budget => 5
  | .pool => 6
  | .superseded => 7
  | .aborted => 8

/-- The pending request's word of mailbox 6. -/
def waitingWord : Option Request → Word
  | none => word 255
  | some (.select n reload) => word (n.val + 256 + bitIf reload 1024)
  | some (.call n) => word (n.val + 512)
  | some .ret => word (255 + 768)

/-- The last outcome's word of mailbox 6. -/
def lastWord : Option LastOutcome → Word
  | none => word 255
  | some l => word (sceneByte l.scene + 256 * l.outcome.code + 4096 * l.request.code)

/-- The record of mailbox 6. -/
def SceneRecord.words (r : SceneRecord) : List Word :=
  [word (sceneByte r.live + 256 * r.change.code + 4096 * r.depth), word (sceneByte r.target), waitingWord r.waiting,
    lastWord r.last]

/-- The code of a link state. -/
def LinkState.code : LinkState → Nat
  | .search => 0
  | .measure => 1
  | .locked => 2
  | .holdover => 3

/-- The code of a rate; 0 for none. -/
def rateCode : Option Rate → Nat
  | none => 0
  | some .r44100 => 1
  | some .r48000 => 2
  | some .r88200 => 3
  | some .r96000 => 4

/-- The record of mailbox 7. -/
def LinkRecord.words (r : LinkRecord) : List Word :=
  [word (r.state.code + 16 * rateCode r.rate), word r.slips, word r.frameChecks]

/-- The code of the cause of a measurement. -/
def MeasureCause.code (c : MeasureCause) : Nat := if c.periodic then (if c.requested then 2 else 0) else 1

/-- The record of mailbox 8. -/
def SupplyRecord.words (r : SupplyRecord) : List Word :=
  [(match r.reading with
    | some n => word n
    | none => 0xFFFF), word r.c1, word r.c2, word (r.cause.code + bitIf (r.recovery = 1) 4)]

/-- The record of mailbox i. -/
def Mailboxes.words (b : Mailboxes) (i : Fin 17) : List Word :=
  if h : i.val < 4 then (b.tuner[i.val]'h).record.words
  else if i.val = 4 then b.tempo.record.words
  else if i.val = 5 then b.governor.record.words
  else if i.val = 6 then b.scene.record.words
  else if i.val = 7 then b.link.record.words
  else if i.val = 8 then b.supply.record.words
  else if h : i.val - 9 < 8 then twoWords (b.meters[i.val - 9]'h).record
  else []

/-- The fresh flag of mailbox i. -/
def Mailboxes.fresh (b : Mailboxes) (i : Fin 17) : Bool :=
  if h : i.val < 4 then (b.tuner[i.val]'h).fresh
  else if i.val = 4 then b.tempo.fresh
  else if i.val = 5 then b.governor.fresh
  else if i.val = 6 then b.scene.fresh
  else if i.val = 7 then b.link.fresh
  else if i.val = 8 then b.supply.fresh
  else if h : i.val - 9 < 8 then (b.meters[i.val - 9]'h).fresh
  else false

end Sys2Proof.Machine
end

