-- ==== Sys2Proof/Machine/Stages.lean ====
section
/-! DEFINITION. The arithmetic of the stages: TRIM, GATE, FILTER and TREMOLO (R9 to R18), SHAPER and CAB (R27 to R37),
DELAY (R45 to R51, R57), and the running of a stage list (R5, R6). -/

namespace Sys2Proof.Machine

/-! ### TRIM (R9) -/

/-- y = saturate(x·g/4096, rounded half up) (R9). -/
def trimOut (gain : Nat) (x : Int) : Int := saturate (roundDiv (x * gain) 4096)

/-! ### GATE (R10 to R13) -/

/-- The envelope rises at once and loses floor(env/256) otherwise (R11). -/
def gateEnvelope (envelope : Nat) (x : Int) : Nat :=
  if envelope < x.natAbs then x.natAbs else envelope - envelope / 256

/-- The effective close level (R10). -/
def effectiveClose (openLevel closeLevel : Nat) : Nat := min closeLevel openLevel

/-- The state and hold count after the frame's transition (Table 1-3). -/
def gateMove (openLevel closeLevel holdTime : Nat) (state : GateState) (holdCount envelope : Nat) :
    GateState × Nat :=
  match state with
  | .closed => if openLevel ≤ envelope then (.opened, holdCount) else (.closed, holdCount)
  | .opened =>
    if effectiveClose openLevel closeLevel ≤ envelope then (.opened, holdCount)
    else if 0 < holdTime then (.held, holdTime) else (.closed, holdCount)
  | .held =>
    if openLevel ≤ envelope then (.opened, holdCount)
    else if 1 < holdCount then (.held, holdCount - 1) else (.closed, 0)

/-- The gain after the frame's transition (R13). -/
def gateGain (state : GateState) (gain : Nat) : Nat :=
  match state with
  | .closed => gain - 1
  | .opened => min 256 (gain + 16)
  | .held => min 256 (gain + 16)

/-- One frame of a GATE stage: its state and its output (R11 to R13). -/
def gateStep (openLevel closeLevel holdTime : Nat) (g : GateProc) (x : Int) : GateProc × Int :=
  let envelope := gateEnvelope g.envelope x
  let moved := gateMove openLevel closeLevel holdTime g.state g.holdCount envelope
  let gain := gateGain moved.1 g.gain
  ({ envelope := envelope, state := moved.1, holdCount := moved.2, gain := gain }, saturate (roundDiv (x * gain) 256))

/-! ### FILTER (R14) -/

/-- One frame of a FILTER stage: its history and its output (R14). -/
def filterStep (b0 b1 b2 a1 a2 : Int) (f : FilterProc) (x : Int) : FilterProc × Int :=
  let acc := b0 * x + b1 * f.x1 + b2 * f.x2 - a1 * f.y1 - a2 * f.y2
  let y := saturate (roundDiv acc 4194304)
  ({ x1 := x, x2 := f.x1, y1 := y, y2 := f.y1 }, y)

/-! ### The beat clock as the stages read it, and the divisions (R17, R47, R98) -/

/-- P, b and g as they stand for the frame (R96). -/
structure Clock where
  period : Nat
  phase : Nat
  group : Nat
  deriving DecidableEq, Repr

/-- num and den of a division (Table 3-2). -/
def Division.ratio : Division → Nat × Nat
  | .half => (2, 1)
  | .quarter => (1, 1)
  | .dottedEighth => (3, 4)
  | .quarterTriplet => (2, 3)
  | .eighth => (1, 2)
  | .sixteenth => (1, 4)

/-- The length of a division at the period P (R98): floor(P × num ÷ den). -/
def Division.frames (d : Division) (period : Nat) : Nat := period * d.ratio.1 / d.ratio.2

/-! ### TREMOLO (R15 to R18) -/

/-- The increment of the FREE phase: 2³²/period, rounded half up (R16). -/
def lfoIncrement (period : Nat) : Nat := roundDivNat 4294967296 period

/-- The phase in FREE: floor(A/65,536) (R16). -/
def freePhase (accumulator : Nat) : Nat := accumulator / 65536

/-- The phase in SYNC (R17). -/
def syncPhase (division : Division) (clock : Clock) : Nat :=
  let length := division.frames clock.period
  65536 * ((clock.group * clock.period + clock.phase) % length) / length

/-- The triangle of R18. -/
def triangle (phase : Nat) : Nat := if phase < 32768 then 2 * phase else 2 * (65535 - phase)

/-- The gain of R18. -/
def tremoloGain (depth phase : Nat) : Nat := 65536 - depth * triangle phase / 256

/-- One frame of a TREMOLO stage: its accumulator and its output (R16 to R18). -/
def tremoloStep (depth : Nat) (mode : RateMode) (period : Nat) (division : Division) (clock : Clock)
    (accumulator : Nat) (x : Int) : Nat × Int :=
  match mode with
  | .free =>
    ((accumulator + lfoIncrement period) % 4294967296,
      saturate (roundDiv (x * tremoloGain depth (freePhase accumulator)) 65536))
  | .sync => (accumulator, saturate (roundDiv (x * tremoloGain depth (syncPhase division clock)) 65536))

/-! ### SHAPER (R27 to R34) -/

/-- The driven value (R29). -/
def drive (d : Nat) (x : Int) : Int := saturate (roundDiv (x * d) 256)

/-- Sub-sample k of N (R30). -/
def subSample (previous value : Int) (k n : Nat) : Int := previous + roundDiv ((value - previous) * k) n

/-- The lookup of a sub-sample in a curve (R31). -/
def curveLookup (curve : Vector Int 257) (s : Int) : Int :=
  let u := (s + 8388608).toNat
  let i := u / 65536
  let f := u % 65536
  let low := curve.toList.getD i 0
  let high := curve.toList.getD (i + 1) 0
  low + roundDiv ((high - low) * f) 65536

/-- The average of the N lookups (R32). -/
def shaperAverage (curve : Vector Int 257) (previous value : Int) (n : Nat) : Int :=
  roundDiv ((List.range n).foldr (fun k sum => curveLookup curve (subSample previous value (k + 1) n) + sum) 0) n

/-- One frame of a SHAPER stage: V_prev and its output (R29 to R32). -/
def shaperStep (d : Nat) (curve : Vector Int 257) (n level : Nat) (previous x : Int) : Int × Int :=
  let value := drive d x
  (value, saturate (roundDiv (shaperAverage curve previous value n * level) 32768))

/-! ### CAB (R36, R37) -/

/-- The sum of taps times inputs, the newest input first (R36). -/
def convolve : List Int → List Int → Int
  | h :: taps, x :: inputs => h * x + convolve taps inputs
  | _, _ => 0

/-- One frame of a CAB stage: its history, the newest input first, and its output (R36, R37). -/
def cabStep (taps : Vector Int 128) (count : Nat) (history : List Int) (x : Int) : List Int × Int :=
  ((x :: history).take 127, saturate (roundDiv (convolve (taps.toList.take count) (x :: history)) 8388608))

/-! ### DELAY (R46 to R51, R57) -/

/-- The capacity of a stage's line (R46). -/
def capacity (blocks : List Nat) : Nat := blocks.length * Config.blockSize

/-- The target length (R47). -/
def targetLength (p : DelayParams) (blocks : List Nat) (period : Nat) : Nat :=
  let wanted := match p.mode with
    | .fixed => p.fixedLength
    | .sync => p.division.frames period
  clampNat 1 (min p.maxLength (capacity blocks)) wanted

/-- The glide of the current read length toward the target (R48). -/
def glide (current target : Nat) : Nat :=
  if current < target then min target (current + 2) else if target < current then max target (current - 2) else current

/-- The read length the frame uses; a stage whose length has not been set starts at its target (R48). -/
def frameLength (p : DelayParams) (blocks : List Nat) (period : Nat) (line : LineProc) : Nat :=
  let target := targetLength p blocks period
  match line.readLength with
  | some current => glide current target
  | none => target

/-- The delayed sample: the line input written Lc frames earlier, or 0 where the line has not been written so far
back since its zeroing (R49). -/
def delayed (blocks : List Nat) (line : LineProc) (length : Nat) (mem : List (Nat × Int)) : Int :=
  if line.fill < length then 0
  else memRead mem (lineAddress blocks ((line.writePos + capacity blocks - length) % capacity blocks))

/-- The write of a line input, the advance of the write position and the rise of the fill count (R46, R50). -/
def lineWrite (blocks : List Nat) (line : LineProc) (length : Nat) (input : Int) (mem : List (Nat × Int)) :
    LineProc × List (Nat × Int) :=
  ({ fill := min (capacity blocks) (line.fill + 1), writePos := (line.writePos + 1) % capacity blocks,
     readLength := some length },
    memWrite mem (lineAddress blocks line.writePos) input)

/-- The result of one frame of a stage: the stage, its output and the samples of the pool. -/
structure StageFrame where
  stage : Stage
  out : Int
  mem : List (Nat × Int)
  deriving DecidableEq, Repr

/-- One frame of a DELAY stage of a full-list context (R50). -/
def delayStep (p : DelayParams) (st : Stage) (period : Nat) (x : Int) (mem : List (Nat × Int)) : StageFrame :=
  let length := frameLength p st.blocks period st.proc.line
  let d := delayed st.blocks st.proc.line length mem
  let input := saturate (x + roundDiv (p.feedback * d) 32768)
  let written := lineWrite st.blocks st.proc.line length input mem
  { stage := { st with proc := { st.proc with line := written.1 } }
    out := saturate (x + roundDiv (p.wet * d) 32768)
    mem := written.2 }

/-- What one frame of a spill-flagged stage in a tail gives: the stage, its tail output, whether it ran quietly, and
the samples of the pool (R57, R58). -/
structure TailFrame where
  stage : Stage
  out : Int
  quiet : Bool
  mem : List (Nat × Int)
  deriving DecidableEq, Repr

/-- One frame of a spill-flagged DELAY stage in a tail, its input silenced (R57); it was quiet when |d| < 2,106
(R58). -/
def tailStep (p : DelayParams) (st : Stage) (period : Nat) (mem : List (Nat × Int)) : TailFrame :=
  let length := frameLength p st.blocks period st.proc.line
  let d := delayed st.blocks st.proc.line length mem
  let written := lineWrite st.blocks st.proc.line length (saturate (roundDiv (p.feedback * d) 32768)) mem
  { stage := { st with proc := { st.proc with line := written.1 } }
    out := roundDiv (p.wet * d) 32768
    quiet := d.natAbs < 2106
    mem := written.2 }

/-! ### Stage lists (R5, R6, R57) -/

/-- What the stages of a frame read beside their own records: the beat clock and the live copies of the store. -/
structure FrameInputs where
  clock : Clock
  curves : Vector CurveSlot 16
  cabs : Vector CabSlot 8
  deriving DecidableEq, Repr

/-- One frame of a stage that computes. -/
def computeStage (env : FrameInputs) (st : Stage) (x : Int) (mem : List (Nat × Int)) : StageFrame :=
  match st.record.params with
  | .trim gain => { stage := st, out := trimOut gain x, mem := mem }
  | .gate openLevel closeLevel holdTime =>
    let r := gateStep openLevel closeLevel holdTime st.proc.gate x
    { stage := { st with proc := { st.proc with gate := r.1 } }, out := r.2, mem := mem }
  | .filter b0 b1 b2 a1 a2 =>
    let r := filterStep b0 b1 b2 a1 a2 st.proc.filter x
    { stage := { st with proc := { st.proc with filter := r.1 } }, out := r.2, mem := mem }
  | .tremolo depth mode period division =>
    let r := tremoloStep depth mode period division env.clock st.proc.phase x
    { stage := { st with proc := { st.proc with phase := r.1 } }, out := r.2, mem := mem }
  | .shaper d curve _ level =>
    let r := shaperStep d env.curves[curve].live (oversampling st.effective) level st.proc.previous x
    { stage := { st with proc := { st.proc with previous := r.1 } }, out := r.2, mem := mem }
  | .cab slot taps =>
    let r := cabStep env.cabs[slot].live taps st.proc.history x
    { stage := { st with proc := { st.proc with history := r.1 } }, out := r.2, mem := mem }
  | .delay p => delayStep p st env.clock.period x mem

/-- One frame of a stage of a full-list context: a bypassed or shed stage passes its input and holds its state
(R6, R51). -/
def runStage (env : FrameInputs) (st : Stage) (x : Int) (mem : List (Nat × Int)) : StageFrame :=
  if st.computes then computeStage env st x mem else { stage := st, out := x, mem := mem }

/-- The stages after a frame, the context output and the samples of the pool (R5). -/
def runList (env : FrameInputs) : List Stage → Int → List (Nat × Int) → List Stage × Int × List (Nat × Int)
  | [], x, mem => ([], x, mem)
  | st :: rest, x, mem =>
    let r := runStage env st x mem
    let after := runList env rest r.out r.mem
    (r.stage :: after.1, after.2.1, after.2.2)

/-- A stage that runs in a tail: a spill-flagged DELAY that is neither bypassed nor shed (R57). -/
def Stage.tailParams (st : Stage) : Option DelayParams :=
  match st.record.params with
  | .delay p => if p.spill && st.computes then some p else none
  | _ => none

/-- What a frame of a tail context's stages gives: the stages, the exact sum of the tail outputs, whether every stage
that ran was quiet, and the samples of the pool (R57, R58). -/
structure TailList where
  stages : List Stage
  sum : Int
  quiet : Bool
  mem : List (Nat × Int)
  deriving DecidableEq, Repr

/-- One frame of a tail context's stages (R57). -/
def runTail (period : Nat) : List Stage → List (Nat × Int) → TailList
  | [], mem => { stages := [], sum := 0, quiet := true, mem := mem }
  | st :: rest, mem =>
    match st.tailParams with
    | some p =>
      let r := tailStep p st period mem
      let after := runTail period rest r.mem
      { stages := r.stage :: after.stages, sum := r.out + after.sum, quiet := r.quiet && after.quiet, mem := after.mem }
    | none =>
      let after := runTail period rest mem
      { stages := st :: after.stages, sum := after.sum, quiet := after.quiet, mem := after.mem }

/-! ### Pan and fades (R19, R83, R84) -/

/-- Pan turns a mono value into a pair (R19). -/
def panPair (pan : Int) (y : Int) : Int × Int :=
  if 0 ≤ pan then (roundDiv (y * (64 - pan)) 64, y) else (y, roundDiv (y * (64 + pan)) 64)

/-- The crossfade of one side: (O·(F − k) + W·k)/F, rounded half up (R83). -/
def crossfade (length k : Nat) (o w : Int) : Int := roundDiv (o * ((length : Int) - k) + w * k) length

/-- The dip of one side (R84). -/
def dipMix (k : Nat) (o w : Int) : Int :=
  if k < 32 then roundDiv (o * (32 - (k : Int))) 32 else roundDiv (w * ((k : Int) - 32)) 32

/-- A function of one side applied to both. -/
def onSides (f : Int → Int → Int) (o w : Int × Int) : Int × Int := (f o.1 w.1, f o.2 w.2)

end Sys2Proof.Machine
end

