-- ==== Sys2Proof/Machine/Chains.lean ====
section
/-! DEFINITION. The frame of the four chains: the chain input sample, the running of each context by its state, the
main pair, the tails and the chain output pair (R2 to R4, R19 to R23, R57 to R61, R80, R83). -/

namespace Sys2Proof.Machine

/-- The chain input sample (R2): the source slot's sample shifted by the trim, negated if inverted, saturated. -/
def chainInput (r : ChainInput) (inbound : Vector Int 8) : Int :=
  let shifted := inbound[r.source] * (2 ^ r.trim.val : Nat)
  saturate (if r.invert then -shifted else shifted)

/-- The kinds of fade whose first half holds the incoming context (R159). -/
def FadeKind.holds : FadeKind → Bool
  | .dipCross => true
  | .dipIn => true
  | .none => false
  | .cross => false
  | .fadeIn => false
  | .fadeOut => false
  | .dipOut => false

/-- A LIVE context held in the first half of a dip (R159). -/
def Ctx.held (c : Ctx) (f : Fade) : Bool := c.state = .live && f.kind.holds && f.k < 32

/-- What a frame of a context gives: its record, the pair it hands on, if it runs, and the samples of the pool. -/
structure CtxFrame where
  ctx : Ctx
  pair : Option (Int × Int)
  mem : List (Nat × Int)
  deriving DecidableEq, Repr

/-- One frame of a full-list context: the stage list on the chain input sample, then pan (R5, R19). -/
def fullFrame (env : FrameInputs) (x : Int) (c : Ctx) (mem : List (Nat × Int)) : CtxFrame :=
  let r := runList env c.stages x mem
  { ctx := { c with stages := r.1 }, pair := some (panPair c.pan r.2.1), mem := r.2.2 }

/-- One frame of a SPILLING context: the tail pair, and the rise of its counts (R57, R58). -/
def spillFrame (env : FrameInputs) (c : Ctx) (mem : List (Nat × Int)) : CtxFrame :=
  let r := runTail env.clock.period c.stages mem
  { ctx := { c with
      stages := r.stages, spillCount := c.spillCount + 1, quietCount := if r.quiet then c.quietCount + 1 else 0 }
    pair := some (panPair c.pan (saturate r.sum))
    mem := r.mem }

/-- One frame of a CUTTING context: the tail pair at the cut gain c/64, and the fall of c (R57, R61). -/
def cutFrame (env : FrameInputs) (c : Ctx) (mem : List (Nat × Int)) : CtxFrame :=
  let r := runTail env.clock.period c.stages mem
  let p := panPair c.pan (saturate r.sum)
  { ctx := { c with stages := r.stages, cut := c.cut - 1 }
    pair := some (roundDiv (p.1 * c.cut) 64, roundDiv (p.2 * c.cut) 64)
    mem := r.mem }

/-- One frame of a context by its state (Table 1-1, R80). No context of a bypassed chain runs (R23). -/
def ctxFrame (env : FrameInputs) (bypassed : Bool) (fade : Fade) (x : Int) (c : Ctx) (mem : List (Nat × Int)) :
    CtxFrame :=
  match c.state with
  | .idle => { ctx := c, pair := none, mem := mem }
  | .loading => { ctx := { c with loadCount := c.loadCount + 1 }, pair := none, mem := mem }
  | .ready => { ctx := c, pair := none, mem := mem }
  | .live => if bypassed || c.held fade then { ctx := c, pair := none, mem := mem } else fullFrame env x c mem
  | .fadingOut => if bypassed then { ctx := c, pair := none, mem := mem } else fullFrame env x c mem
  | .spilling => if bypassed then { ctx := c, pair := none, mem := mem } else spillFrame env c mem
  | .cutting => if bypassed then { ctx := c, pair := none, mem := mem } else cutFrame env c mem

/-- The pair of the context that stands in a state, or the zero pair (R20). -/
def pairIn (state : CtxState) (f g : CtxFrame) : Int × Int :=
  if f.ctx.state = state then f.pair.getD (0, 0) else if g.ctx.state = state then g.pair.getD (0, 0) else (0, 0)

/-- The main pair of a chain from its LIVE and FADING_OUT pairs and its fade (R20, R83, R84). -/
def mainPair (fade : Fade) (live fading : Int × Int) : Int × Int :=
  match fade.kind with
  | .none => live
  | .cross => onSides (crossfade fade.length fade.k) fading live
  | .fadeIn => onSides (crossfade fade.length fade.k) (0, 0) live
  | .fadeOut => onSides (crossfade fade.length fade.k) live (0, 0)
  | .dipCross => onSides (dipMix fade.k) fading live
  | .dipIn => onSides (dipMix fade.k) (0, 0) live
  | .dipOut => onSides (dipMix fade.k) live (0, 0)

/-- The states of a tail context (R4). -/
def CtxState.tail : CtxState → Bool
  | .spilling => true
  | .cutting => true
  | .idle => false
  | .loading => false
  | .ready => false
  | .live => false
  | .fadingOut => false

/-- The states of a running context (R22). -/
def CtxState.running : CtxState → Bool
  | .live => true
  | .fadingOut => true
  | .spilling => true
  | .cutting => true
  | .idle => false
  | .loading => false
  | .ready => false

/-- The tail pair a context hands on, or the zero pair (R21). -/
def tailPair (f : CtxFrame) : Int × Int := if f.ctx.state.tail then f.pair.getD (0, 0) else (0, 0)

/-- A chain has output when the governor has bypassed it or a context of it runs (R22). DESIGN CHOICE: R23 says that the
bypass mark changes no owner, but by R22 and R135 a bypassed chain without a running context claims its slots; the model
follows R22 and R135 (log entry 37). -/
def hasOutput (bypassed : Bool) (cs : Vector Ctx 2) : Bool :=
  bypassed || cs[(0 : Fin 2)].state.running || cs[(1 : Fin 2)].state.running

/-- The chain output pair (R21), or the chain input sample on both sides of a bypassed chain (R23). -/
def outputPair (bypassed : Bool) (fade : Fade) (x : Int) (f g : CtxFrame) : Int × Int :=
  if bypassed then (x, x)
  else
    let main := mainPair fade (pairIn .live f g) (pairIn .fadingOut f g)
    let t := tailPair f
    let u := tailPair g
    (saturate (main.1 + t.1 + u.1), saturate (main.2 + t.2 + u.2))

/-- A fade advances in every processed frame (R83). -/
def Fade.advance (f : Fade) : Fade := if f.kind = .none then f else { f with k := f.k + 1 }

/-- The contexts, fades, pool samples and output pairs as a frame goes through the chains. -/
structure ChainsRun where
  ctxs : Vector (Vector Ctx 2) 4
  fades : Vector Fade 4
  mem : List (Nat × Int)
  outputs : Vector (Option (Int × Int)) 4
  deriving DecidableEq, Repr

/-- One frame of one chain (R4, R20 to R23). -/
def chainFrame (env : FrameInputs) (bypass : Vector Bool 4) (inputs : Vector Int 4) (r : ChainsRun) (c : Fin 4) :
    ChainsRun :=
  let f := ctxFrame env bypass[c] r.fades[c] inputs[c] r.ctxs[c][(0 : Fin 2)] r.mem
  let g := ctxFrame env bypass[c] r.fades[c] inputs[c] r.ctxs[c][(1 : Fin 2)] f.mem
  let out := if hasOutput bypass[c] r.ctxs[c] then some (outputPair bypass[c] r.fades[c] inputs[c] f g) else none
  { ctxs := setCtx (setCtx r.ctxs c 0 f.ctx) c 1 g.ctx
    fades := upd r.fades c r.fades[c].advance
    mem := g.mem
    outputs := upd r.outputs c out }

/-- The four chain input samples of a frame (R2). -/
def chainInputs (inputs : Vector ChainInput 4) (inbound : Vector Int 8) : Vector Int 4 :=
  tab fun c => chainInput inputs[c] inbound

/-- What the stages of the frame read (R5, R17, R38). -/
def frameInputs (s : State) : FrameInputs :=
  { clock := { period := s.tfu.period, phase := s.tfu.phase, group := s.tfu.group }
    curves := s.chp.curves
    cabs := s.chp.cabs }

/-- The run of a frame through the four chains in ascending order. -/
def chainsRun (inbound : Vector Int 8) (s : State) : ChainsRun :=
  chains.foldl (chainFrame (frameInputs s) s.bgv.bypass (chainInputs s.chp.inputs inbound))
    { ctxs := s.scc.ctxs, fades := s.scc.fades, mem := s.dpl.mem, outputs := s.chp.outputs }

/-- CHP's frame (R4): the chain output pairs are formed and the processing state, the counts and the fades move on. -/
def chainsFrame (inbound : Vector Int 8) (s : State) : State :=
  let r := chainsRun inbound s
  { s with
    scc := { s.scc with ctxs := r.ctxs, fades := r.fades }
    dpl := { s.dpl with mem := r.mem }
    chp := { s.chp with outputs := r.outputs } }

end Sys2Proof.Machine
end

