-- ==== Sys2Proof/Machine/Governor.lean ====
section
/-! DEFINITION. The budget, the demand and the five passes of the governor on a running set (R152 to R161). -/

namespace Sys2Proof.Machine

/-! ### Budget and costs (R152, R153) -/

/-- The budget in work units per frame (Table 8-1). -/
def budgetOf (g : GuardState) (double : Bool) : Nat :=
  match g with
  | .normal => if double then 512 else 1024
  | .auto => if double then 320 else 640
  | .forced => if double then 320 else 640

/-- The budget of the guard state and rate group in force; the single-rate group while no rate has been measured. -/
def State.budget (s : State) : Nat := budgetOf s.bgv.guardState (s.lif.rate.getD .r48000).double

/-- The cost of a stage that computes (Table 8-2). -/
def stageCost (p : StageParams) (effective : Fin 4) : Nat :=
  match p with
  | .trim _ => 2
  | .gate _ _ _ => 6
  | .filter _ _ _ _ _ => 10
  | .tremolo _ _ _ _ => 6
  | .shaper _ _ _ _ => 4 + 8 * oversampling effective
  | .cab _ taps => 4 + (taps + 3) / 4
  | .delay _ => 12

/-- The cost of a stage of a full-list context (Table 8-2): 0 for a bypassed or shed stage. -/
def Stage.cost (st : Stage) : Nat := if st.computes then stageCost st.record.params st.effective else 0

/-- The sum of a cost over the stages of a list. -/
def costSum (f : Stage → Nat) (stages : List Stage) : Nat := stages.foldr (fun st n => f st + n) 0

/-- The cost of a context by its state (Table 8-2). -/
def ctxCost (fade : Fade) (c : Ctx) : Nat :=
  match c.state with
  | .idle => 0
  | .loading => 0
  | .ready => 0
  | .live => if c.held fade then 0 else 8 + costSum Stage.cost c.stages
  | .fadingOut => 8 + costSum Stage.cost c.stages
  | .spilling => 8 + costSum (fun st => if st.record.spills && st.computes then 12 else 0) c.stages
  | .cutting => 8

/-- What the governor works on: the contexts, the fades, the chain bypass marks, and the free list that its cuts and
bypasses free blocks into. -/
structure RunSet where
  ctxs : Vector (Vector Ctx 2) 4
  fades : Vector Fade 4
  bypass : Vector Bool 4
  free : List Nat
  deriving DecidableEq, Repr

/-- The cost of a chain: 0 if it carries the bypass mark (Table 8-2). -/
def RunSet.chainCost (r : RunSet) (c : Fin 4) : Nat :=
  if r.bypass[c] then 0
  else ctxCost r.fades[c] r.ctxs[c][(0 : Fin 2)] + ctxCost r.fades[c] r.ctxs[c][(1 : Fin 2)]

/-- The demand (R153). -/
def RunSet.demand (r : RunSet) : Nat := r.chainCost 0 + r.chainCost 1 + r.chainCost 2 + r.chainCost 3

/-- A stage at its requested values: effective oversampling as requested, no shed mark (R155). -/
def Stage.atRequest (st : Stage) : Stage := { st with effective := st.record.requested, shed := false }

/-- A context at its requested values. -/
def Ctx.atRequest (c : Ctx) : Ctx := { c with stages := c.stages.map Stage.atRequest }

/-- Every context of every chain changed alike. -/
def mapCtxs (f : Ctx → Ctx) (ctxs : Vector (Vector Ctx 2) 4) : Vector (Vector Ctx 2) 4 :=
  tab fun c => tab fun x => f ctxs[c][x]

/-- The requested state an evaluation begins from (R155). -/
def RunSet.atRequest (r : RunSet) : RunSet :=
  { r with ctxs := mapCtxs Ctx.atRequest r.ctxs, bypass := Vector.replicate 4 false }

/-! ### The candidates of passes 1 and 2 (R156, R157) -/

/-- A stage of the running set. -/
structure Place where
  chain : Fin 4
  ctx : Fin 2
  stage : Nat
  deriving DecidableEq, Repr

/-- The stage at a place. -/
def RunSet.stage? (r : RunSet) (p : Place) : Option Stage := r.ctxs[p.chain][p.ctx].stages[p.stage]?

/-- The running set with the stage at a place changed. -/
def RunSet.modify (f : Stage → Stage) (p : Place) (r : RunSet) : RunSet :=
  let c := r.ctxs[p.chain][p.ctx]
  { r with ctxs := setCtx r.ctxs p.chain p.ctx { c with stages := c.stages.modify p.stage f } }

/-- The full-list contexts of a chain that the passes reach, the FADING_OUT one first: LIVE or FADING_OUT and not
held in a dip (R156). -/
def RunSet.fullList (r : RunSet) (c : Fin 4) : List (Fin 2) :=
  ([0, 1].filter fun x => r.ctxs[c][x].state = .fadingOut) ++
  ([0, 1].filter fun x => r.ctxs[c][x].state = .live && !r.ctxs[c][x].held r.fades[c])

/-- The stages of full-list contexts in the order of the keys of R157: highest chain first, then the FADING_OUT
context, then the highest stage index. -/
def RunSet.places (r : RunSet) : List Place :=
  [3, 2, 1, 0].flatMap fun (c : Fin 4) => (r.fullList c).flatMap fun x =>
    (List.range r.ctxs[c][x].stages.length).reverse.map fun i => { chain := c, ctx := x, stage := i }

/-- The stage is a SHAPER. -/
def StageRecord.isShaper (r : StageRecord) : Bool :=
  match r.params with
  | .shaper _ _ _ _ => true
  | _ => false

/-- The code of the effective oversampling of a candidate of pass 1; 0 for a stage that is none (R156). -/
def RunSet.halvable (r : RunSet) (p : Place) : Nat :=
  match r.stage? p with
  | some st => if st.record.isShaper && !st.record.bypass then st.effective.val else 0
  | none => 0

/-- The candidate of pass 1 that the keys choose: the largest effective oversampling, then the order of `places`. -/
def RunSet.nextHalving (r : RunSet) : Option Place :=
  let largest := r.places.foldr (fun p m => max (r.halvable p) m) 0
  if largest = 0 then none else r.places.find? fun p => r.halvable p = largest

/-- The halving of a stage's effective oversampling. -/
def Stage.halve (st : Stage) : Stage := { st with effective := ⟨st.effective.val - 1, by omega⟩ }

/-- A candidate of pass 2: sheddable, bypass flag clear, no shed mark (R157). -/
def RunSet.sheddable (r : RunSet) (p : Place) : Bool :=
  match r.stage? p with
  | some st => st.record.sheddable && !st.record.bypass && !st.shed
  | none => false

/-- The shedding of a stage. -/
def Stage.setShed (st : Stage) : Stage := { st with shed := true }

/-! ### The passes (R155 to R160) -/

/-- The course of an evaluation: the running set, and the steps taken by each pass. -/
structure Course where
  set : RunSet
  halvings : Nat
  sheds : Nat
  dips : Nat
  cuts : Nat
  deriving DecidableEq, Repr

/-- Pass 1 (R156): halvings until the demand fits or no candidate is left; at most `fuel` of them. -/
def pass1 (budget : Nat) : Nat → Course → Course
  | 0, e => e
  | fuel + 1, e =>
    if e.set.demand ≤ budget then e
    else match e.set.nextHalving with
      | some p => pass1 budget fuel { e with set := e.set.modify Stage.halve p, halvings := e.halvings + 1 }
      | none => e

/-- Pass 2 (R157): sheds until the demand fits or no candidate is left; at most `fuel` of them. -/
def pass2 (budget : Nat) : Nat → Course → Course
  | 0, e => e
  | fuel + 1, e =>
    if e.set.demand ≤ budget then e
    else match e.set.places.find? e.set.sheddable with
      | some p => pass2 budget fuel { e with set := e.set.modify Stage.setShed p, sheds := e.sheds + 1 }
      | none => e

/-- The contexts in the order of pass 3: highest chain first, then context 1 before context 0 (R158). -/
def cutOrder : List (Fin 4 × Fin 2) := [(3, 1), (3, 0), (2, 1), (2, 0), (1, 1), (1, 0), (0, 1), (0, 0)]

/-- A cut of a context by the governor, its blocks outside spill-flagged DELAY stages freed (R61). -/
def RunSet.cut (r : RunSet) (c : Fin 4) (x : Fin 2) : RunSet :=
  { r with
    ctxs := setCtx r.ctxs c x r.ctxs[c][x].toCutting
    free := freeBlocks r.ctxs[c][x].dryBlocks r.free }

/-- Pass 3 (R158) at one context: a SPILLING context is cut if the demand does not fit. -/
def pass3At (budget : Nat) (e : Course) (cx : Fin 4 × Fin 2) : Course :=
  if e.set.demand ≤ budget then e
  else if e.set.ctxs[cx.1][cx.2].state = .spilling then { e with set := e.set.cut cx.1 cx.2, cuts := e.cuts + 1 }
  else e

/-- The dip that a fade starting now becomes (R159). -/
def FadeKind.asDip : FadeKind → FadeKind
  | .cross => .dipCross
  | .fadeIn => .dipIn
  | .fadeOut => .dipOut
  | .none => .none
  | .dipCross => .dipCross
  | .dipIn => .dipIn
  | .dipOut => .dipOut

/-- A fade kind that can still become a dip. -/
def FadeKind.canDip : FadeKind → Bool
  | .cross => true
  | .fadeIn => true
  | .fadeOut => true
  | .none => false
  | .dipCross => false
  | .dipIn => false
  | .dipOut => false

/-- The outgoing context of a fade in progress that has more than 32 frames to run, with the fade that its cut leaves
(R86, R159): a CROSS goes on as IN, and an OUT ends. -/
def longFade (f : Fade) (cs : Vector Ctx 2) : Option (Fin 2 × Fade) :=
  match f.kind with
  | .cross => if f.k + 32 < f.length then (fadingCtx cs).map fun x => (x, { f with kind := .fadeIn }) else none
  | .fadeOut => if f.k + 32 < f.length then (liveCtx cs).map fun x => (x, Fade.rest) else none
  | _ => none

/-- Pass 4 at one chain (R159): a fade starting now is marked as a dip; the outgoing context of a long fade in progress
is cut; any other fade is passed over. -/
def pass4At (budget : Nat) (e : Course) (c : Fin 4) : Course :=
  let f := e.set.fades[c]
  if e.set.demand ≤ budget then e
  else if f.k = 0 && f.kind.canDip then
    { e with set := { e.set with fades := upd e.set.fades c { f with kind := f.kind.asDip } }, dips := e.dips + 1 }
  else match longFade f e.set.ctxs[c] with
    | some r =>
      let cut := e.set.cut c r.1
      { e with set := { cut with fades := upd cut.fades c r.2 }, cuts := e.cuts + 1 }
    | none => e

/-- A fade whose outgoing FADING_OUT context has been taken to IDLE by a chain bypass (R87). -/
def FadeKind.withoutOutgoing : FadeKind → FadeKind
  | .cross => .fadeIn
  | .dipCross => .dipIn
  | .none => .none
  | .fadeIn => .fadeIn
  | .fadeOut => .fadeOut
  | .dipIn => .dipIn
  | .dipOut => .dipOut

/-- A context other than the LIVE one goes to IDLE and its blocks are freed (R87, R160). -/
def RunSet.drop (c : Fin 4) (x : Fin 2) (r : RunSet) : RunSet :=
  let k := r.ctxs[c][x]
  if k.state = .live then r
  else
    let f := r.fades[c]
    { r with
      ctxs := setCtx r.ctxs c x Ctx.empty
      fades := if k.state = .fadingOut then upd r.fades c { f with kind := f.kind.withoutOutgoing } else r.fades
      free := freeBlocks k.blocks r.free }

/-- Pass 5 at one chain (R160): the chain takes the bypass mark, and its contexts other than the LIVE one go to
IDLE. -/
def pass5At (budget : Nat) (e : Course) (c : Fin 4) : Course :=
  if e.set.demand ≤ budget then e
  else { e with set := RunSet.drop c 1 (RunSet.drop c 0 { e.set with bypass := upd e.set.bypass c true }) }

/-- The chains in descending order (R159, R160). -/
def chainsDown : List (Fin 4) := [3, 2, 1, 0]

/-- The greatest number of halvings (Table 8-3). -/
def maxHalvings : Nat := 288

/-- The greatest number of sheds (Table 8-3). -/
def maxSheds : Nat := 96

/-- Passes 1 and 2 on a running set at its requested values (R156, R157, R161). -/
def passes12 (budget : Nat) (r : RunSet) : Course :=
  pass2 budget maxSheds (pass1 budget maxHalvings { set := r, halvings := 0, sheds := 0, dips := 0, cuts := 0 })

/-- The five passes on a running set at its requested values (R155). -/
def passes (budget : Nat) (r : RunSet) : Course :=
  chainsDown.foldl (pass5At budget)
    (chainsDown.foldl (pass4At budget) (cutOrder.foldl (pass3At budget) (passes12 budget r)))

/-! ### Evaluations (R154, R155, R162) -/

/-- The running set of the state. -/
def State.runSet (s : State) : RunSet :=
  { ctxs := s.scc.ctxs, fades := s.scc.fades, bypass := s.bgv.bypass, free := s.dpl.free }

/-- The record of mailbox 5 as the state stands (R162). -/
def governorRecord (s : State) : GovernorRecord :=
  { budget := s.budget, requestedDemand := s.bgv.requestedDemand, demand := s.bgv.demand
    guardState := s.bgv.guardState, force := s.bgv.force, halvings := s.bgv.halvings, sheds := s.bgv.sheds
    bypass := s.bgv.bypass, dips := s.bgv.dips, cuts := s.bgv.cuts }

/-- Mailbox 5 is written with all fields as they stand (R162). -/
def writeGovernorBox (s : State) : State :=
  setBoxes (fun b => { b with governor := Box.write (governorRecord s) }) s

/-- A count of mailbox 5 that saturates at 255 (Table 8-3). -/
def addCapped (n m : Nat) : Nat := min 255 (n + m)

/-- The evaluation proper (R155): the passes from the requested state, the marks written, mailbox 5 written, and
GOVERN set where R162 says so. -/
def evaluateMarks (s : State) : State :=
  let start := s.runSet.atRequest
  let e := passes s.budget start
  let changed := e.halvings ≠ s.bgv.halvings || e.sheds ≠ s.bgv.sheds || e.set.bypass ≠ s.bgv.bypass ||
    0 < e.dips || 0 < e.cuts
  raiseIf changed .govern (writeGovernorBox
    { s with
      scc := { s.scc with ctxs := e.set.ctxs, fades := e.set.fades }
      dpl := { s.dpl with free := e.set.free }
      bgv := { s.bgv with
        bypass := e.set.bypass, halvings := e.halvings, sheds := e.sheds
        dips := addCapped s.bgv.dips e.dips, cuts := addCapped s.bgv.cuts e.cuts
        requestedDemand := start.demand, demand := e.set.demand, evaluate := false } })

end Sys2Proof.Machine
end

