-- ==== Sys2Proof/Machine/Tempo.lean ====
section
/-! DEFINITION. The tempo period, the beat clock and tap tempo (R94 to R105), and mailbox 4 (R114). -/

namespace Sys2Proof.Machine

/-- The tempo in hundredths of a BPM of a period: 60·rate·100/P, rounded half up (R114). -/
def tempoOf (hz period : Nat) : Nat := roundDivNat (6000 * hz) period

/-- The period of a tempo in hundredths of a BPM, clamped to 3,000–24,000 (R99). -/
def periodOf (hz bpm100 : Nat) : Nat := roundDivNat (6000 * hz) (clampNat 3000 24000 bpm100)

/-- The range of the period: floor(rate/4) … 2·rate (R95). -/
def clampPeriod (hz period : Nat) : Nat := clampNat (hz / 4) (2 * hz) period

/-- The sub-beat position: the largest m of 1 … 7 with floor(P·m/8) ≤ b, or 0 (R97). -/
def subPosition (period phase : Nat) : Nat :=
  ([1, 2, 3, 4, 5, 6, 7].filter fun m => period * m / 8 ≤ phase).length

/-- The record of mailbox 4 as the state stands (R114). -/
def tempoRecord (s : State) : TempoRecord :=
  { period := s.tfu.period, tempo := tempoOf s.hz s.tfu.period, source := s.tfu.source, beats := s.tfu.beats
    group := s.tfu.group, sub := s.tfu.sub }

/-- TFU writes mailbox 4 (R114). -/
def writeTempoBox (s : State) : State :=
  setBoxes (fun b => { b with tempo := Box.write (tempoRecord s) }) s

/-- A period is clamped and applied: the beat phase is carried to the same fraction of the new beat, and mailbox 4 is
written (R95, R97). -/
def applyPeriod (source : TempoSource) (wanted : Nat) (s : State) : State :=
  let period := clampPeriod s.hz wanted
  let phase := s.tfu.phase * period / s.tfu.period
  writeTempoBox { s with tfu := { s.tfu with
    period := period, phase := phase, sub := subPosition period phase, source := source } }

/-- A tempo in hundredths of a BPM is applied, by *Set Tempo* (R99) or by a scene's switch (R100). -/
def applyTempo (source : TempoSource) (bpm100 : Nat) (s : State) : State :=
  applyPeriod source (periodOf s.hz bpm100) s

/-- The tap interval list is emptied and the previous tap time forgotten (R103). -/
def forgetTaps (s : State) : State := { s with tfu := { s.tfu with taps := [], previousTap := none } }

/-- The rescale of the period at a lock at another rate, which empties the tap interval list (R101). The rate in force
is the new one already. -/
def rescale (old : Nat) (s : State) : State :=
  forgetTaps (applyPeriod .rescale (roundDivNat (s.tfu.period * s.hz) old) s)

/-! ### The beat clock (R96, R97, R102) -/

/-- At the end of a processed frame the beat phase rises by 1 and the frame is counted (R96, R103). -/
def advanceClock (s : State) : State :=
  { s with tfu := { s.tfu with phase := s.tfu.phase + 1, frames := s.tfu.frames + 1 } }

/-- The clock has reached a beat (R96). -/
def beatDue (s : State) : Bool := s.tfu.period ≤ s.tfu.phase

/-- A beat (R96). -/
def takeBeat (s : State) : State :=
  raise .beat (writeTempoBox { s with tfu := { s.tfu with
    phase := 0, group := (s.tfu.group + 1) % 12, beats := s.tfu.beats + 1, sub := 0 } })

/-- The advance has raised the sub-beat position (R97). -/
def subdivisionDue (s : State) : Bool :=
  s.tfu.phase < s.tfu.period && s.tfu.sub < subPosition s.tfu.period s.tfu.phase

/-- A rise of the sub-beat position (R97). -/
def takeSubdivision (s : State) : State :=
  writeTempoBox { s with tfu := { s.tfu with sub := subPosition s.tfu.period s.tfu.phase } }

/-- The reset flag is taken at the start of a frame (R102). -/
def takeTempoReset (s : State) : State :=
  if s.tfu.phase = 0 then
    writeTempoBox { s with tfu := { s.tfu with group := 0, resetFlag := false } }
  else
    raise .beat (writeTempoBox { s with tfu := { s.tfu with
      phase := 0, group := 0, sub := 0, beats := s.tfu.beats + 1, resetFlag := false } })

/-! ### Taps (R103 to R105) -/

/-- The classifications of a tap (R104). -/
inductive TapClass where
  | first | restart | ignored | applied
  deriving DecidableEq, Repr

/-- The classification of a tap taken now (R104). -/
def classifyTap (s : State) : TapClass :=
  if !s.lif.state.processing then .ignored
  else match s.tfu.previousTap with
    | none => .first
    | some t =>
      if 2 * s.hz < s.tfu.frames - t then .restart
      else if s.tfu.frames - t < s.hz / 4 then .ignored
      else .applied

/-- An interval joins the list; a fifth one puts the oldest out (R103). -/
def joinInterval (taps : List Nat) (interval : Nat) : List Nat :=
  let all := taps ++ [interval]
  all.drop (all.length - 4)

/-- The mean of the intervals, rounded half up (R104). -/
def meanInterval (taps : List Nat) : Nat := roundDivNat taps.sum taps.length

/-- A tap starts a new measurement (R104, FIRST and RESTART). -/
def startTaps (s : State) : State := { s with tfu := { s.tfu with taps := [], previousTap := some s.tfu.frames } }

/-- A tap is classified and applied (R104). -/
def takeTap (s : State) : State :=
  match classifyTap s with
  | .ignored => s
  | .first => startTaps s
  | .restart => startTaps s
  | .applied =>
    let taps := joinInterval s.tfu.taps (s.tfu.frames - s.tfu.previousTap.getD 0)
    applyPeriod .tap (meanInterval taps) { s with tfu := { s.tfu with taps := taps, previousTap := some s.tfu.frames } }

end Sys2Proof.Machine
end

