-- ==== Sys2Proof/Machine/Scenes.lean ====
section
/-! DEFINITION. The Scene Controller: requests and their checks, cuts, the load, the switch, the fades, link search and
Restart, mailbox 6 (R69 to R92), and the moment an evaluation event is answered (R154). -/

namespace Sys2Proof.Machine

/-! ### Mailbox 6 and outcomes (R92) -/

/-- The record of mailbox 6 as the state stands (R92). -/
def sceneRecord (s : State) : SceneRecord :=
  { live := s.scc.live, change := s.scc.change, target := s.scc.inFlight.map InFlight.target
    waiting := s.scc.waiting, last := s.scc.last, depth := s.scc.stack.length }

/-- SCC writes mailbox 6 (R92). -/
def writeSceneBox (s : State) : State :=
  setBoxes (fun b => { b with scene := Box.write (sceneRecord s) }) s

/-- A request ends with an outcome: mailbox 6 is written and SCENE is set (R92). -/
def endRequest (outcome : SceneOutcome) (request : Request) (scene : Option (Fin 128)) (s : State) : State :=
  raise .scene (writeSceneBox
    { s with scc := { s.scc with last := some { outcome := outcome, request := request, scene := scene } } })

/-- The scene a request names by itself; a *Return* names none (R73). -/
def Request.names : Request → Option (Fin 128)
  | .select n _ => some n
  | .call n => some n
  | .ret => none

/-- The target of a request that starts: a *Return* reads the top of the stack (R74). -/
def requestTarget (r : Request) (stack : List (Fin 128)) : Option (Fin 128) :=
  match r with
  | .select n _ => some n
  | .call n => some n
  | .ret => stack.head?

/-! ### The contexts of a change (R70, R75 to R79) -/

/-- The standby context of a chain (R70). -/
def standbyOf (cs : Vector Ctx 2) : Fin 2 :=
  match liveCtx cs with
  | some x => if x = 0 then 1 else 0
  | none => if cs[(0 : Fin 2)].state = .idle then 0 else if cs[(1 : Fin 2)].state = .idle then 1 else 0

/-- The stage records of a section that are its stages: positions 0 to stage count − 1 (R63). -/
def SceneSection.records (t : SceneSection) : List StageRecord := t.stages.toList.take t.count

/-- A stage as a load copies it in: zeroed, at its requested oversampling, without a shed mark (R79). -/
def Stage.load (r : StageRecord) : Stage :=
  { record := r, effective := r.requested, shed := false, proc := Proc.zero, blocks := [] }

/-- The trial's contexts of a chain (R75, R161): a RUN section stands as one LIVE context, a HOLD chain's contexts
count at their requested values, an OFF section counts nothing. -/
def trialCtxs (t : SceneSection) (cs : Vector Ctx 2) : Vector Ctx 2 :=
  match t.mode with
  | .run => upd (Vector.replicate 2 Ctx.empty) 0 { Ctx.empty with state := .live, stages := t.records.map Stage.load }
  | .hold => tab fun x => cs[x].atRequest
  | .off => Vector.replicate 2 Ctx.empty

/-- The trial running set (R75, R161): no fade holds a context and no chain is bypassed. -/
def trialSet (scene : Scene) (s : State) : RunSet :=
  { ctxs := tab fun c => trialCtxs scene.sections[c] s.scc.ctxs[c]
    fades := Vector.replicate 4 Fade.rest
    bypass := Vector.replicate 4 false
    free := [] }

/-- The trial's demand after passes 1 and 2 is within the budget (R161). -/
def trialFits (scene : Scene) (s : State) : Bool :=
  (passes12 s.budget (trialSet scene s)).set.demand ≤ s.budget

/-- The blocks a section needs: those of its DELAY stages in RUN (R75). -/
def SceneSection.need (t : SceneSection) : Nat :=
  match t.mode with
  | .run => (t.records.map StageRecord.need).sum
  | .hold => 0
  | .off => 0

/-- The pool need of a scene (R75). -/
def Scene.need (scene : Scene) : Nat :=
  scene.sections[(0 : Fin 4)].need + scene.sections[(1 : Fin 4)].need + scene.sections[(2 : Fin 4)].need +
    scene.sections[(3 : Fin 4)].need

/-- The number of blocks held by the contexts whose state a test accepts. -/
def heldBlocks (p : CtxState → Bool) (ctxs : Vector (Vector Ctx 2) 4) : Nat :=
  (allCtxs.map fun cx => if p ctxs[cx.1][cx.2].state then ctxs[cx.1][cx.2].blocks.length else 0).sum

/-- The blocks a load may count on: the free ones and those of SPILLING and CUTTING contexts (R75). -/
def availableBlocks (s : State) : Nat := s.dpl.free.length + heldBlocks CtxState.tail s.scc.ctxs

/-- The chain's section is RUN. -/
def SceneSection.isRun (t : SceneSection) : Bool := t.mode = .run

/-- The two conditions of R78: every RUN chain's standby context is IDLE, and the free count covers the need. -/
def loadReady (f : InFlight) (s : State) : Bool :=
  (chains.all fun c => !f.copy.sections[c].isRun || (s.scc.ctx c f.standby[c]).state = .idle) &&
    f.copy.need ≤ s.dpl.free.length

/-- SCC waits in CUTTING and the conditions of R78 hold. -/
def loadDue (s : State) : Bool :=
  s.scc.change = .cutting && (match s.scc.inFlight with
    | some f => loadReady f s
    | none => false)

/-- The stages of a load take their blocks in ascending stage index, each the lowest-numbered blocks then free
(R55). -/
def allocate : List Stage → List Nat → List Stage × List Nat
  | [], free => ([], free)
  | st :: rest, free =>
    let n := st.record.need
    let after := allocate rest (free.drop n)
    ({ st with blocks := free.take n } :: after.1, after.2)

/-- The context a load fills from the change copy (R79). -/
def loadedCtx (f : InFlight) (t : SceneSection) (stages : List Stage) : Ctx :=
  { Ctx.empty with state := .loading, scene := some f.target, pan := t.pan, stages := stages }

/-- The load of one chain (R79): a RUN chain's standby context goes from IDLE to LOADING. -/
def loadChain (f : InFlight) (s : State) (c : Fin 4) : State :=
  let t := f.copy.sections[c]
  let x := f.standby[c]
  if t.isRun && (s.scc.ctx c x).state = .idle then
    let r := allocate (t.records.map Stage.load) s.dpl.free
    putCtx c x (loadedCtx f t r.1) { s with dpl := { s.dpl with free := r.2 } }
  else s

/-- The load of every RUN chain in ascending order, and the change state LOADING (R76, R78, R79). -/
def loadChains (f : InFlight) (s : State) : State :=
  let t := chains.foldl (loadChain f) s
  writeSceneBox { t with scc := { t.scc with change := .loading } }

/-! ### Evaluation events (R154) -/

/-- An evaluation is due before the next frame. -/
def markEvaluation (s : State) : State := { s with bgv := { s.bgv with evaluate := true } }

/-- A load loads some context. -/
def InFlight.loads (f : InFlight) : Bool := chains.any fun c => f.copy.sections[c].isRun

/-- An evaluation (R155). Its chain bypass may bring about the conditions of R78, and the load then starts at once
(R78, R87). The load is itself an evaluation event, answered before the next frame while frames are processed and at
once otherwise. -/
def evaluateNow (s : State) : State :=
  let t := evaluateMarks s
  if loadDue t then
    match t.scc.inFlight with
    | some f =>
      let u := loadChains f t
      if !f.loads then u else if u.lif.state.processing then markEvaluation u else evaluateMarks u
    | none => t
  else t

/-- An evaluation event is taken: while frames are processed it is answered before the next frame, otherwise at once
(R154). -/
def evaluationEvent (s : State) : State := if s.lif.state.processing then markEvaluation s else evaluateNow s

/-- An evaluation event is taken if the condition holds. -/
def evaluationEventIf (p : Bool) (s : State) : State := if p then evaluationEvent s else s

/-- The load start (R79). -/
def loadStart (f : InFlight) (s : State) : State := evaluationEventIf f.loads (loadChains f s)

/-! ### Cuts before the load (R77) -/

/-- Step 1 of R77 at one chain: a RUN chain's SPILLING standby context is cut. -/
def cutStandby (f : InFlight) (s : State) (c : Fin 4) : State :=
  if f.copy.sections[c].isRun && (s.scc.ctx c f.standby[c]).state = .spilling then cutCtx c f.standby[c] s else s

/-- The state of a context in CUTTING. -/
def CtxState.isCutting : CtxState → Bool
  | .cutting => true
  | .idle => false
  | .loading => false
  | .ready => false
  | .live => false
  | .fadingOut => false
  | .spilling => false

/-- Step 2 of R77 at one context: a SPILLING context is cut while the free blocks and those of CUTTING contexts do not
cover the need. -/
def cutForNeed (need : Nat) (s : State) (cx : Fin 4 × Fin 2) : State :=
  if s.dpl.free.length + heldBlocks CtxState.isCutting s.scc.ctxs < need &&
      (s.scc.ctx cx.1 cx.2).state = .spilling then cutCtx cx.1 cx.2 s else s

/-- The cuts of R77. -/
def cutsBeforeLoad (f : InFlight) (s : State) : State :=
  cutOrder.foldl (cutForNeed f.copy.need) (chains.foldl (cutStandby f) s)

/-! ### The start of a request (R74 to R76) -/

/-- The first check of R74 that fails, for a request whose target slot holds a scene. -/
def sceneFailure (r : Request) (target : Fin 128) (scene : Scene) (s : State) : Option SceneOutcome :=
  let again := match r with
    | .select _ reload => !reload
    | .call _ => true
    | .ret => false
  if again && s.scc.live = some target then some .alreadyLive
  else if !trialFits scene s then some .budget
  else if availableBlocks s < scene.need then some .pool
  else none

/-- A request that has passed its checks becomes the change in flight (R76). -/
def beginChange (r : Request) (target : Fin 128) (scene : Scene) (s : State) : State :=
  let f : InFlight := { request := r, target := target, copy := scene, standby := tab fun c => standbyOf s.scc.ctxs[c] }
  let cut := cutsBeforeLoad f
    { s with scc := { s.scc with change := .cutting, inFlight := some f } }
  let told := evaluationEventIf (cut.scc.ctxs ≠ s.scc.ctxs) (writeSceneBox cut)
  if loadDue told then loadStart f told else told

/-- A request starts (R74): the state after it, and the outcome of the check that failed, if one did. -/
def startRequest (r : Request) (s : State) : State × Option SceneOutcome :=
  match requestTarget r s.scc.stack with
  | none => (endRequest .empty r none s, some .empty)
  | some target =>
    match s.scc.scenes[target] with
    | none =>
      let popped := match r with
        | .ret => { s with scc := { s.scc with stack := s.scc.stack.tail } }
        | .select _ _ => s
        | .call _ => s
      (endRequest .absent r (some target) popped, some .absent)
    | some scene =>
      match sceneFailure r target scene s with
      | some o => (endRequest o r (some target) s, some o)
      | none => (beginChange r target scene s, none)

/-- A request finds SCC as it stands (R72, R73): it starts at once if SCC is IDLE and otherwise takes the pending slot,
where it supersedes an older one. -/
def receiveRequest (r : Request) (s : State) : State × Option SceneOutcome :=
  if s.scc.change = .idle then startRequest r s
  else
    match s.scc.waiting with
    | none => (writeSceneBox { s with scc := { s.scc with waiting := some r } }, none)
    | some old =>
      let t := setCounters (fun n => { n with superseded := countUp n.superseded })
        { s with scc := { s.scc with waiting := some r } }
      (endRequest .superseded old old.names t, none)

/-- SCC is IDLE and the slot holds a request (R73). -/
def pendingStartDue (s : State) : Bool := s.scc.change = .idle && s.scc.waiting.isSome

/-- The pending request leaves the slot and starts (R73). -/
def takePendingStart (s : State) : State :=
  match s.scc.waiting with
  | some r => (startRequest r { s with scc := { s.scc with waiting := none } }).1
  | none => s

/-- A pending request that is due to start does so. -/
def startIfDue (s : State) : State := if pendingStartDue s then takePendingStart s else s

/-- A request arrives. One that arrives at the moment SCC returns to IDLE is taken after the pending request has started
(R73, the first of its two orders; log entry 12). -/
def requestArrives (r : Request) (s : State) : State × Option SceneOutcome := receiveRequest r (startIfDue s)

/-- The load start that falls due while SCC waits in CUTTING (R78). -/
def takeLoadStart (s : State) : State :=
  match s.scc.inFlight with
  | some f => loadStart f s
  | none => s

/-! ### The load's end and the switch (R80 to R82, R88) -/

/-- A LOADING context whose count has reached 4 + its stage count (R80). -/
def loadCompleteDue (c : Fin 4) (x : Fin 2) (s : State) : Bool :=
  (s.scc.ctx c x).state = .loading && 4 + (s.scc.ctx c x).stages.length ≤ (s.scc.ctx c x).loadCount

/-- A DELAY stage takes its current read length from its target at the end of the load (R48). -/
def Stage.setLength (period : Nat) (st : Stage) : Stage :=
  match st.record.params with
  | .delay p =>
    { st with proc := { st.proc with line := { st.proc.line with readLength := some (targetLength p st.blocks period) } } }
  | _ => st

/-- A LOADING context becomes READY (R80). -/
def takeLoadComplete (c : Fin 4) (x : Fin 2) (s : State) : State :=
  let k := s.scc.ctx c x
  evaluationEvent
    (putCtx c x { k with state := .ready, stages := k.stages.map (Stage.setLength s.tfu.period) } s)

/-- Some context is LOADING. -/
def anyLoading (ctxs : Vector (Vector Ctx 2) 4) : Bool :=
  allCtxs.any fun cx => ctxs[cx.1][cx.2].state = .loading

/-- The switch falls due at the next frame: the load has started and no context is LOADING (R80). -/
def switchDue (s : State) : Bool := s.scc.change = .loading && s.scc.inFlight.isSome && !anyLoading s.scc.ctxs

/-- A fade that starts at the switch with position 0 (R81). -/
def newFade (kind : FadeKind) (scene : Scene) : Fade :=
  { kind := kind, length := 2 ^ scene.exponent, k := 0, halfTaken := false }

/-- The switch of one chain (Table of R81). A RUN chain without a READY context is treated as HOLD. -/
def switchChain (f : InFlight) (s : State) (c : Fin 4) : State :=
  let cs := s.scc.ctxs[c]
  let x := f.standby[c]
  match f.copy.sections[c].mode with
  | .hold => s
  | .off =>
    match liveCtx cs with
    | some _ => setFade c (newFade .fadeOut f.copy) s
    | none => s
  | .run =>
    if cs[x].state = .ready then
      let on := putCtx c x { cs[x] with state := .live } s
      match liveCtx cs with
      | some y => setFade c (newFade .cross f.copy) (putCtx c y { cs[y] with state := .fadingOut } on)
      | none => setFade c (newFade .fadeIn f.copy) on
    else s

/-- The return stack after a push: at 6 entries the oldest is removed first (R88). -/
def pushScene (n : Fin 128) (stack : List (Fin 128)) : List (Fin 128) := (n :: stack).take 6

/-- The return stack after the switch of a request (R82, R88). -/
def stackAfter (r : Request) (live : Option (Fin 128)) (stack : List (Fin 128)) : List (Fin 128) :=
  match r with
  | .select _ _ => stack
  | .call _ => match live with
    | some n => pushScene n stack
    | none => stack
  | .ret => stack.tail

/-- The scene tempo of the change copy is applied with source SCENE (R82, R100). -/
def sceneTempo (scene : Scene) (s : State) : State :=
  match scene.tempo with
  | some t => applyTempo .scene t s
  | none => s

/-- Every chain's fade record is NONE. -/
def fadesDone (fades : Vector Fade 4) : Bool := chains.all fun c => fades[c].kind = .none

/-- The change ends and SCC returns to IDLE (R71). -/
def toIdle (s : State) : State := { s with scc := { s.scc with change := .idle, inFlight := none } }

/-- The switch (R81, R82). -/
def doSwitch (f : InFlight) (s : State) : State :=
  let moved := sceneTempo f.copy (chains.foldl (switchChain f) s)
  let after : State := { moved with scc := { moved.scc with
    stack := stackAfter f.request s.scc.live s.scc.stack, live := some f.target, change := .fading } }
  let ended := if fadesDone after.scc.fades then toIdle after else after
  evaluationEventIf (ended.scc.ctxs ≠ s.scc.ctxs) (endRequest .switched f.request (some f.target) ended)

/-- The switch of the change in flight. -/
def takeSwitch (s : State) : State :=
  match s.scc.inFlight with
  | some f => doSwitch f s
  | none => s

/-! ### Fades and tails (R59 to R61, R83 to R85) -/

/-- SCC returns to IDLE when the last fade of the change has ended (R85). -/
def returnIfDone (s : State) : State :=
  if s.scc.change = .fading && fadesDone s.scc.fades then writeSceneBox (toIdle s) else s

/-- The fade has ended (R83, R84). -/
def Fade.ended (f : Fade) : Bool :=
  match f.kind with
  | .none => false
  | .cross => f.length ≤ f.k
  | .fadeIn => f.length ≤ f.k
  | .fadeOut => f.length ≤ f.k
  | .dipCross => 64 ≤ f.k
  | .dipIn => 64 ≤ f.k
  | .dipOut => 32 ≤ f.k

/-- The outgoing context whose part ends with the chain's fade (R85). -/
def outgoingAtEnd (kind : FadeKind) (cs : Vector Ctx 2) : Option (Fin 2) :=
  match kind with
  | .cross => fadingCtx cs
  | .fadeOut => liveCtx cs
  | .dipOut => liveCtx cs
  | .none => none
  | .fadeIn => none
  | .dipCross => none
  | .dipIn => none

/-- An outgoing context leaves its fade, which is an evaluation event (R85, R154). -/
def endPart (c : Fin 4) (x : Option (Fin 2)) (s : State) : State :=
  match x with
  | some x => evaluationEvent (leaveFade c x s)
  | none => s

/-- The chain's fade has reached its end. -/
def fadeEndDue (c : Fin 4) (s : State) : Bool := s.scc.fades[c].ended

/-- The end of a chain's fade (R85). -/
def takeFadeEnd (c : Fin 4) (s : State) : State :=
  returnIfDone (setFade c Fade.rest (endPart c (outgoingAtEnd s.scc.fades[c].kind s.scc.ctxs[c]) s))

/-- The chain's dip has reached its half-way point (R159). -/
def dipHalfwayDue (c : Fin 4) (s : State) : Bool :=
  s.scc.fades[c].kind.holds && 32 ≤ s.scc.fades[c].k && !s.scc.fades[c].halfTaken

/-- The half-way point of a dip: the outgoing part ends and the incoming context begins to compute, an evaluation event
(R84, R85, R159). -/
def takeDipHalfway (c : Fin 4) (s : State) : State :=
  let out := match s.scc.fades[c].kind with
    | .dipCross => fadingCtx s.scc.ctxs[c]
    | _ => none
  evaluationEvent (setFade c { s.scc.fades[c] with halfTaken := true } (match out with
    | some x => leaveFade c x s
    | none => s))

/-- A SPILLING context whose quiet count has reached 4,096 (R59). -/
def tailEndDue (c : Fin 4) (x : Fin 2) (s : State) : Bool :=
  (s.scc.ctx c x).state = .spilling && 4096 ≤ (s.scc.ctx c x).quietCount

/-- A SPILLING context whose spill count has reached its limit, with the quiet count below 4,096 (R60). -/
def spillLimitDue (c : Fin 4) (x : Fin 2) (s : State) : Bool :=
  (s.scc.ctx c x).state = .spilling && (s.scc.ctx c x).quietCount < 4096 &&
    (s.scc.ctx c x).spillLimit ≤ (s.scc.ctx c x).spillCount

/-- A CUTTING context whose cut position has reached 0 (R61). -/
def cutCompleteDue (c : Fin 4) (x : Fin 2) (s : State) : Bool :=
  (s.scc.ctx c x).state = .cutting && (s.scc.ctx c x).cut = 0

/-- A tail ends: the context goes to IDLE and its blocks are freed (R59). -/
def takeTailEnd (c : Fin 4) (x : Fin 2) (s : State) : State := evaluationEvent (idleCtx c x s)

/-- A SPILLING context goes to CUTTING (R60). -/
def takeSpillLimit (c : Fin 4) (x : Fin 2) (s : State) : State := evaluationEvent (cutCtx c x s)

/-- A cut completes: the context goes to IDLE and its blocks are freed (R61). -/
def takeCutComplete (c : Fin 4) (x : Fin 2) (s : State) : State := evaluationEvent (idleCtx c x s)

/-! ### Link search and Restart (R8, R53, R90, R91) -/

/-- The zeroing of a stage that stays with its context through link search: its block list and its current read length
are kept (R8, R53). -/
def Stage.zero (st : Stage) : Stage :=
  { st with proc := { Proc.zero with line := { fill := 0, writePos := 0, readLength := st.proc.line.readLength } } }

/-- The context stays LIVE through link search: it is LIVE and not fading to silence (R90). -/
def staysLive (f : Fade) (c : Ctx) : Bool :=
  c.state = .live && f.kind ≠ .fadeOut && f.kind ≠ .dipOut

/-- Link search at one context: a context that stays LIVE is zeroed; every other one goes to IDLE (R90). -/
def searchCtx (s : State) (cx : Fin 4 × Fin 2) : State :=
  let k := s.scc.ctx cx.1 cx.2
  if staysLive s.scc.fades[cx.1] k then
    putCtx cx.1 cx.2 { k with stages := k.stages.map Stage.zero } s
  else idleCtx cx.1 cx.2 s

/-- A change that has not switched ends ABORTED (R90, R91). -/
def abortInFlight (s : State) : State :=
  match s.scc.inFlight with
  | some f =>
    if s.scc.change = .cutting || s.scc.change = .loading then endRequest .aborted f.request (some f.target) (toIdle s)
    else toIdle s
  | none => toIdle s

/-- The pending request ends ABORTED and the slot is emptied (R90, R91). -/
def abortWaiting (s : State) : State :=
  match s.scc.waiting with
  | some r => endRequest .aborted r r.names { s with scc := { s.scc with waiting := none } }
  | none => s

/-- The states of the contexts, for telling whether one has changed. -/
def ctxStates (ctxs : Vector (Vector Ctx 2) 4) : List CtxState := allCtxs.map fun cx => ctxs[cx.1][cx.2].state

/-- SCC's response to the link entering SEARCH (R90), with the zeroing of R8. -/
def searchScc (s : State) : State :=
  let t := allCtxs.foldl searchCtx s
  let u := abortWaiting (abortInFlight { t with scc := { t.scc with fades := Vector.replicate 4 Fade.rest } })
  if s.scc.change = .idle then u else writeSceneBox u

/-- SCC's response to *Restart* (R91). -/
def restartScc (s : State) : State :=
  let t := allCtxs.foldl (fun u cx => idleCtx cx.1 cx.2 u) s
  let u := abortWaiting (abortInFlight { t with scc := { t.scc with fades := Vector.replicate 4 Fade.rest } })
  evaluationEventIf (ctxStates u.scc.ctxs ≠ ctxStates s.scc.ctxs) (raise .scene (writeSceneBox
    { u with scc := { u.scc with stack := [], live := none } }))

end Sys2Proof.Machine
end

