-- ==== Sys2Proof/Machine/LiveEdits.lean ====
section
/-! DEFINITION. Live edits: *Set Live Parameter*, *Set Stage Bypass* and the STAGE_TOGGLE action (R24 to R26, R35, R37,
R52). -/

namespace Sys2Proof.Machine

/-- A parameter written: the parameters after it, and the value as stored after clamping. -/
structure ParamEdit where
  params : StageParams
  stored : Int
  deriving DecidableEq, Repr

/-- An edit that stores a value that is not negative. -/
def storeNat (f : Nat → StageParams) (n : Nat) : Option ParamEdit := some { params := f n, stored := n }

/-- An edit that stores a signed value. -/
def storeInt (f : Int → StageParams) (z : Int) : Option ParamEdit := some { params := f z, stored := z }

/-- The edit of a DELAY stage: the maximum length and the spill flag are load-time parameters (R52, Table 11-6). -/
def editDelay (p : DelayParams) (number : Nat) (v : Int) : Option ParamEdit :=
  match number with
  | 1 => storeNat (fun n => .delay { p with mode := delayModeOf n }) (clampToNat 0 1 v)
  | 2 => storeNat (fun n => .delay { p with fixedLength := n }) (clampToNat 1 131072 v)
  | 3 => storeNat (fun n => .delay { p with division := divisionOf n }) (clampToNat 0 5 v)
  | 4 => storeNat (fun n => .delay { p with feedback := n }) (clampToNat 0 31130 v)
  | 5 => storeNat (fun n => .delay { p with wet := n }) (clampToNat 0 32767 v)
  | 7 => storeNat (fun n => .delay { p with spillLimit := n }) (clampToNat 1 4095 v)
  | _ => none

/-- The value written to a parameter of a stage, clamped to its range; none for a number that names no parameter of the
kind, or a load-time parameter (R24, Table 11-6). -/
def editParam (p : StageParams) (number : Nat) (v : Int) : Option ParamEdit :=
  match p with
  | .trim _ => if number = 0 then storeNat .trim (clampToNat 0 32767 v) else none
  | .gate lo lcl h =>
    match number with
    | 0 => storeNat (fun n => .gate n lcl h) (clampToNat 0 8388607 v)
    | 1 => storeNat (fun n => .gate lo n h) (clampToNat 0 8388607 v)
    | 2 => storeNat (fun n => .gate lo lcl n) (clampToNat 0 65535 v)
    | _ => none
  | .filter b0 b1 b2 a1 a2 =>
    match number with
    | 0 => storeInt (fun z => .filter z b1 b2 a1 a2) (clampInt (-8388608) 8388607 v)
    | 1 => storeInt (fun z => .filter b0 z b2 a1 a2) (clampInt (-8388608) 8388607 v)
    | 2 => storeInt (fun z => .filter b0 b1 z a1 a2) (clampInt (-8388608) 8388607 v)
    | 3 => storeInt (fun z => .filter b0 b1 b2 z a2) (clampInt (-8388608) 8388607 v)
    | 4 => storeInt (fun z => .filter b0 b1 b2 a1 z) (clampInt (-8388608) 8388607 v)
    | _ => none
  | .tremolo depth mode period division =>
    match number with
    | 0 => storeNat (fun n => .tremolo n mode period division) (clampToNat 0 256 v)
    | 1 => storeNat (fun n => .tremolo depth (rateModeOf n) period division) (clampToNat 0 1 v)
    | 2 => storeNat (fun n => .tremolo depth mode n division) (clampToNat 480 96000 v)
    | 3 => storeNat (fun n => .tremolo depth mode period (divisionOf n)) (clampToNat 0 5 v)
    | _ => none
  | .shaper d curve code level =>
    match number with
    | 0 => storeNat (fun n => .shaper n curve code level) (clampToNat 256 16384 v)
    | 1 => storeNat (fun n => .shaper d (clampFin 15 n) code level) (clampToNat 0 15 v)
    | 2 => storeNat (fun n => .shaper d curve (clampFin 3 n) level) (clampToNat 0 3 v)
    | 3 => storeNat (fun n => .shaper d curve code n) (clampToNat 0 65535 v)
    | _ => none
  | .cab slot taps =>
    match number with
    | 0 => storeNat (fun n => .cab (clampFin 7 n) taps) (clampToNat 0 7 v)
    | 1 => storeNat (fun n => .cab slot n) (clampToNat 1 128 v)
    | _ => none
  | .delay d => editDelay d number v

/-- An edit of the hold time, parameter 2 of a GATE, reduces the hold count of a gate in HOLD that stands above the new
one to it (Table 1-6). -/
def capHold (number : Nat) (params : StageParams) (g : GateProc) : GateProc :=
  match params with
  | .gate _ _ h => if number = 2 ∧ g.state = .held then { g with holdCount := min g.holdCount h } else g
  | _ => g

/-- A stage with its parameters replaced by a live edit of one of them: its processing state stands, but for Table 1-6
(R25). -/
def Stage.edit (st : Stage) (number : Nat) (params : StageParams) : Stage :=
  { st with
    record := { st.record with params := params }
    proc := { st.proc with gate := capHold number params st.proc.gate } }

/-- A stage with its bypass flag written (R26). -/
def Stage.setBypass (on : Bool) (st : Stage) : Stage := { st with record := { st.record with bypass := on } }

/-- A stage of a chain's LIVE context (R24, steps 2 and 3): the context and the stage; none where there is no LIVE
context or the index is at or beyond its stage count. -/
def liveStage (c : Fin 4) (i : Nat) (s : State) : Option (Fin 2 × Stage) :=
  match liveCtx s.scc.ctxs[c] with
  | some x => ((s.scc.ctx c x).stages[i]?).map fun st => (x, st)
  | none => none

/-- A stage of a context changed. -/
def modifyStage (c : Fin 4) (x : Fin 2) (i : Nat) (f : Stage → Stage) (s : State) : State :=
  putCtx c x { s.scc.ctx c x with stages := (s.scc.ctx c x).stages.modify i f } s

/-- *Set Live Parameter* at a chain (R24, R25): the state after it and the value as stored; none where a check fails. -/
def editLive (c : Fin 4) (i number : Nat) (v : Int) (s : State) : Option (State × Int) :=
  match liveStage c i s with
  | some p =>
    match editParam p.2.record.params number v with
    | some e => some (evaluationEvent (modifyStage c p.1 i (fun st => st.edit number e.params) s), e.stored)
    | none => none
  | none => none

/-- The bypass flag of a stage of the LIVE context is written, with the evaluation event of R26; none where there is no
such stage. -/
def bypassLive (c : Fin 4) (i : Nat) (f : Bool → Bool) (s : State) : Option (State × Bool) :=
  match liveStage c i s with
  | some p =>
    let on := f p.2.record.bypass
    some (evaluationEvent (modifyStage c p.1 i (Stage.setBypass on) s), on)
  | none => none

/-- The STAGE_TOGGLE action: the bypass flag is inverted, or the action ignored (R26, R111). -/
def stageToggle (c : Fin 4) (i : Nat) (s : State) : State :=
  match bypassLive c i (fun b => !b) s with
  | some p => p.1
  | none => s

end Sys2Proof.Machine
end

