-- ==== Sys2Proof/Machine/Tuner.lean ====
section
/-! DEFINITION. The tuner: channels, crossings, windows, readings and mailboxes 0 to 3 (R115 to R131). -/

namespace Sys2Proof.Machine

/-! ### Measuring and mute requests (R118, R119) -/

/-- A channel measures when its mode is ALWAYS, or ENGAGED with the flag engaged (R118). -/
def measures (mode : ListenMode) (engaged : Bool) : Bool :=
  match mode with
  | .off => false
  | .always => true
  | .engaged => engaged

/-- Channel c requests mute when the flag is engaged and its mute-on-engage flag is set (R119). -/
def Tun.mute (t : Tun) (c : Fin 4) : Bool := t.engaged && t.channels[c].muteOnEngage

/-- The record of mailbox c as the state stands (R128). -/
def tunerRecord (c : Fin 4) (s : State) : TunerRecord :=
  { state := s.tun.channels[c].state, reading := s.tun.channels[c].reading, mute := s.tun.mute c }

/-- TUN writes mailbox c (R128). -/
def writeTunerBox (c : Fin 4) (s : State) : State :=
  setBoxes (fun b => { b with tuner := upd b.tuner c (Box.write (tunerRecord c s)) }) s

/-- A channel replaced. -/
def putChannel (c : Fin 4) (k : Channel) (s : State) : State :=
  { s with tun := { s.tun with channels := upd s.tun.channels c k } }

/-- A change of a channel's state into or out of READY sets TUNER (R129). -/
def readyChanged (old new : ChannelState) : Bool := (old = .ready) != (new = .ready)

/-- The channel after a change of its record or of the engaged flag: it starts or stops measuring, or goes on
(R116, R118). DESIGN CHOICE: a channel that stops holds the measurement state of a start until it starts again (log entry
39). -/
def Channel.follow (k : Channel) (engaged : Bool) : Channel :=
  if measures k.mode engaged then
    if k.state = .off then { k with state := .settling, measure := Measure.empty } else k
  else { k with state := .off, measure := Measure.empty }

/-- Mailbox c is written where the channel's state or mute request differs from what it was in `old` (R128). -/
def reportChannel (old : State) (c : Fin 4) (s : State) : State :=
  if old.tun.channels[c].state = s.tun.channels[c].state && old.tun.mute c = s.tun.mute c then s
  else writeTunerBox c s

/-- Some channel has gone into or out of READY since `old` (R129). -/
def anyReadyChanged (old s : State) : Bool :=
  chains.any fun c => readyChanged old.tun.channels[c].state s.tun.channels[c].state

/-- Every channel reported against what it was in `old`; TUNER is set if one has gone into or out of READY. What one
moment does to the four channels sets the class once (R129, log entry 41). -/
def reportChannels (old s : State) : State :=
  raiseIf (anyReadyChanged old s) .tuner (chains.foldl (fun t c => reportChannel old c t) s)

/-- The engaged flag takes a value, and every channel follows it (R117 to R119). -/
def setEngaged (engaged : Bool) (s : State) : State :=
  reportChannels s
    { s with tun := { s.tun with engaged := engaged, channels := tab fun c => s.tun.channels[c].follow engaged } }

/-- A channel record is replaced, and the channel follows it (R116). -/
def writeChannel (c : Fin 4) (mode : ListenMode) (mute : Bool) (s : State) : State :=
  let k := { s.tun.channels[c] with mode := mode, muteOnEngage := mute }
  reportChannels s (putChannel c (k.follow s.tun.engaged) s)

/-! ### Crossings (R121 to R123) -/

/-- The arming level (R122). -/
def armLevel : Int := 83886

/-- A rising crossing is counted (R122). -/
def risingCrossing (m : Measure) (x : Int) : Bool :=
  match m.previous with
  | some p => p < 0 && 0 ≤ x && m.armRising
  | none => false

/-- A falling crossing is counted (R122). -/
def fallingCrossing (m : Measure) (x : Int) : Bool :=
  match m.previous with
  | some p => 0 < p && x ≤ 0 && m.armFalling
  | none => false

/-- The time of a rising crossing in 1/256 sample, floored (R123). -/
def risingTime (j : Nat) (p x : Int) : Int := 256 * ((j : Int) - 1) + 256 * (-p) / (x - p)

/-- The time of a falling crossing in 1/256 sample, floored (R123). -/
def fallingTime (j : Nat) (p x : Int) : Int := 256 * ((j : Int) - 1) + 256 * p / (p - x)

/-- A crossing joins a history as its newest entry; from 9 entries the oldest leaves (R124). -/
def joinCrossing (history : List Int) (time : Int) : List Int :=
  let all := history ++ [time]
  all.drop (all.length - 9)

/-- The newest time minus the oldest time of a history (R124). -/
def span (history : List Int) : Int := history.getLastD 0 - history.headD 0

/-! ### Readings (R125, R127) -/

/-- The stability step (R125): 32·|Tr − Tf| > Tr is unstable. -/
def stable (tr tf : Int) : Bool := 32 * |tr - tf| ≤ tr

/-- The period in 1/256 sample (R125). -/
def windowPeriod (tr tf : Int) : Nat := (roundDiv (tr + tf) 16).toNat

/-- The range step (R125): 20·P256 ≤ 256·rate ≤ 1,500·P256. -/
def inRange (hz period : Nat) : Bool := 20 * period ≤ 256 * hz && 256 * hz ≤ 1500 * period

/-- 10·f ÷ r as a fraction, with f = 256·rate ÷ P256 (R127). -/
def pitchNum (hz : Nat) : Nat := 2560 * hz

/-- The denominator of 10·f ÷ r (R127). -/
def pitchDen (period reference : Nat) : Nat := period * reference

/-- n^e ÷ d^e is at least 2^x, that is e·log2(n ÷ d) ≥ x, decided exactly on the e-th powers. -/
def powerAtLeast (ne de : Nat) (x : Int) : Bool :=
  if 0 ≤ x then de <<< x.toNat ≤ ne else de ≤ ne <<< (-x).toNat

/-- The least m from `low` up, over at most `fuel` steps, for which m + 1 no longer satisfies `p`; it is the greatest
integer satisfying `p` when `p` holds up to a bound and fails above it. -/
def greatest (p : Int → Bool) : Nat → Int → Int
  | 0, low => low
  | fuel + 1, low => if p (low + 1) then greatest p fuel (low + 1) else low

/-- The note number (R127): nearest(69 + 12·log2(q)), ties to the higher note. N is the greatest note with
12·log2(q) ≥ N − 69 − 1/2, that is 24·log2(q) ≥ 2·(N − 69) − 1. -/
def noteOf (num den : Nat) : Nat :=
  (greatest (fun n => powerAtLeast (num ^ 24) (den ^ 24) (2 * (n - 69) - 1)) 128 0).toNat

/-- The deviation in tenths of a cent (R127): nearest(12,000·log2(q) − 1,000·(N − 69)), ties away from zero. With
v = 12,000·log2(q) − 1,000·(N − 69): for v ≥ 0 it is the greatest d with v ≥ d − 1/2, and for v < 0 it is minus the
greatest d with −v ≥ d − 1/2. -/
def deviationOf (num den note : Nat) : Int :=
  let n := num ^ 24000
  let d := den ^ 24000
  let offset : Int := 2000 * ((note : Int) - 69)
  if powerAtLeast n d offset then
    greatest (fun k => powerAtLeast n d (offset + 2 * k - 1)) 500 0
  else
    -(greatest (fun k => powerAtLeast d n (-offset + 2 * k - 1)) 500 0)

/-- The reported frequency in hundredths of a hertz: 25,600·rate/P256, rounded half up (R127). -/
def frequencyOf (hz period : Nat) : Nat := roundDivNat (25600 * hz) period

/-- The reading of a window that passes (R127). -/
def readingOf (hz reference period : Nat) : Reading :=
  let note := noteOf (pitchNum hz) (pitchDen period reference)
  { note := note, deviation := deviationOf (pitchNum hz) (pitchDen period reference) note
    frequency := frequencyOf hz period }

/-- The judgement of a completed window: a reading, or none for one that fails a step (R125). -/
def judge (hz reference : Nat) (tr tf : Int) : Option Reading :=
  let period := windowPeriod tr tf
  if stable tr tf && inRange hz period then some (readingOf hz reference period) else none

/-! ### One sample (R121, R124, R126) -/

/-- The histories after the crossing test (R122 to R124). -/
def Measure.cross (m : Measure) (x : Int) : Measure :=
  match m.previous with
  | none => m
  | some p =>
    if risingCrossing m x then { m with rising := joinCrossing m.rising (risingTime m.index p x) }
    else if fallingCrossing m x then { m with falling := joinCrossing m.falling (fallingTime m.index p x) }
    else m

/-- The arming flags after a sample (R122). -/
def Measure.arm (m : Measure) (x : Int) (rose fell : Bool) : Measure :=
  { m with
    armRising := x < -armLevel || (m.armRising && !rose)
    armFalling := armLevel < x || (m.armFalling && !fell) }

/-- What a sample does to a channel: the channel, and whether a window has completed in it. -/
structure SampleStep where
  channel : Channel
  window : Bool
  deriving DecidableEq, Repr

/-- A crossing that joined a full history while the other had not filled takes READY to SETTLING (R124). -/
def slides (m : Measure) (rose fell : Bool) : Bool :=
  (rose && m.rising.length = 9 && m.falling.length < 9) || (fell && m.falling.length = 9 && m.rising.length < 9)

/-- One sample of a measuring channel (R121): the crossing test, the arming flags, the silence count, and the window
test. TUNER_SILENCE takes the silence count's own transition (R126). -/
def sampleStep (hz reference : Nat) (k : Channel) (x : Int) : SampleStep :=
  let m := k.measure
  let rose := risingCrossing m x
  let fell := fallingCrossing m x
  let crossed := (m.cross x).arm x rose fell
  let counted := { crossed with
    silence := if rose || fell then 0 else m.silence + 1, previous := some x, index := m.index + 1 }
  if (rose || fell) && counted.rising.length = 9 && counted.falling.length = 9 then
    let kept := { counted with
      rising := counted.rising.drop 8, falling := counted.falling.drop 8 }
    match judge hz reference (span counted.rising) (span counted.falling) with
    | some r => { channel := { k with measure := kept, state := .ready, reading := r }, window := true }
    | none => { channel := { k with measure := kept, state := .settling }, window := true }
  else if slides m rose fell && k.state = .ready then
    { channel := { k with measure := counted, state := .settling }, window := false }
  else { channel := { k with measure := counted }, window := false }

/-- TUN's frame at one channel: a measuring channel takes its sample; mailbox c is written at a completed window and
at a change of state (R121, R128). -/
def channelFrame (inputs : Vector Int 4) (s : State) (c : Fin 4) : State :=
  let k := s.tun.channels[c]
  if measures k.mode s.tun.engaged then
    let r := sampleStep s.hz s.tun.reference k inputs[c]
    let t := putChannel c r.channel s
    if r.window || k.state ≠ r.channel.state then writeTunerBox c t else t
  else s

/-- TUN's frame (R121); TUNER is set if a channel has gone into or out of READY (R129). -/
def tunerFrame (inputs : Vector Int 4) (s : State) : State :=
  let t := chains.foldl (channelFrame inputs) s
  raiseIf (anyReadyChanged s t) .tuner t

/-! ### Silence, link search and Restart (R126, R130, R131) -/

/-- A measuring channel whose silence count has just reached 9,600: it has a state to leave or histories to empty
(R126). -/
def silenceDue (c : Fin 4) (s : State) : Bool :=
  let k := s.tun.channels[c]
  measures k.mode s.tun.engaged && k.measure.silence = 9600 &&
    (k.state ≠ .noSignal || k.measure.rising ≠ [] || k.measure.falling ≠ [])

/-- The channel as it enters NO_SIGNAL, or stays there: its histories are emptied (R126). -/
def Channel.quiet (k : Channel) : Channel :=
  { k with state := .noSignal, measure := { k.measure with rising := [], falling := [] } }

/-- The channel enters NO_SIGNAL with its histories emptied, with its reports (R126, R128, R129). The channels that leave
READY at one sample, by their windows or by silence, set TUNER once (log entry 41). -/
def takeSilence (c : Fin 4) (s : State) : State :=
  raiseOnceIf (s.tun.channels[c].state = .ready) .tuner
    (reportChannel s c (putChannel c s.tun.channels[c].quiet s))

/-- A channel as the link enters SEARCH: a measuring one goes to NO_SIGNAL with its measurement state emptied
(R130). -/
def Channel.search (engaged : Bool) (k : Channel) : Channel :=
  if measures k.mode engaged then { k with state := .noSignal, measure := Measure.empty } else k

/-- TUN's response to the link entering SEARCH (R130). -/
def searchTuner (s : State) : State :=
  reportChannels s
    { s with tun := { s.tun with channels := tab fun c => s.tun.channels[c].search s.tun.engaged } }

/-- A channel at *Restart*: ALWAYS starts afresh, ENGAGED stops, OFF stays (R131). DESIGN CHOICE: a channel that does not
measure then holds the measurement state of a start (log entry 39). -/
def Channel.restart (k : Channel) : Channel :=
  match k.mode with
  | .always => { k with state := .settling, measure := Measure.empty }
  | .engaged => { k with state := .off, measure := Measure.empty }
  | .off => { k with state := .off, measure := Measure.empty }

/-- TUN's response to *Restart*: the engaged flag is cleared and the channels stop or start afresh (R131). -/
def restartTuner (s : State) : State :=
  reportChannels s
    { s with tun := { s.tun with engaged := false, channels := tab fun c => s.tun.channels[c].restart } }

end Sys2Proof.Machine
end

