-- ==== Sys2Proof/Machine/Footswitch.lean ====
section
/-! DEFINITION. The footswitch lines, their actions and the footswitch log (R106 to R113, R142). -/

namespace Sys2Proof.Machine

/-! ### The log (R112) -/

/-- TFU appends an entry to the log and sets FOOT; a full log loses its oldest entry and raises the overflow counter
(R112). -/
def appendLog (line : Fin 8) (event : LogEvent) (s : State) : State :=
  let entry : LogEntry := { line := line, event := event, time := s.tfu.tick }
  if s.tfu.log.length < 16 then raise .foot { s with tfu := { s.tfu with log := s.tfu.log ++ [entry] } }
  else raise .foot (setCounters (fun n => { n with logOverflows := countUp n.logOverflows })
    { s with tfu := { s.tfu with log := s.tfu.log.drop 1 ++ [entry] } })

/-! ### Actions (R111) -/

/-- The PANIC action inverts the panic flag (R142). -/
def togglePanic (s : State) : State := { s with ort := { s.ort with panic := !s.ort.panic } }

/-- A footswitch action is delivered to the block that owns what it acts on (Table 5-3). -/
def fire (a : Action) (s : State) : State :=
  match a with
  | .none => s
  | .select n => (requestArrives (.select n false) s).1
  | .call n => (requestArrives (.call n) s).1
  | .ret => (requestArrives .ret s).1
  | .tap => takeTap s
  | .tuner => setEngaged (!s.tun.engaged) s
  | .panic => togglePanic s
  | .stageToggle c i => stageToggle c i.val s

/-! ### Lines (R106 to R109) -/

/-- A line replaced. -/
def putLine (i : Fin 8) (l : Line) (s : State) : State :=
  { s with tfu := { s.tfu with lines := upd s.tfu.lines i l } }

/-- The line is closed when its debounced level equals its closed level (R106). -/
def Line.closed (l : Line) : Bool := l.high == l.record.closedHigh

/-- The debouncing of a line at a tick (R107). -/
def Line.debounce (high : Bool) (l : Line) : Line :=
  if high = l.high then { l with changes := 0 }
  else if 4 ≤ l.changes then { l with high := high, changes := 0 }
  else { l with changes := l.changes + 1 }

/-- A press of an OPEN line (R108). -/
def takePress (i : Fin 8) (s : State) : State :=
  let l := s.tfu.lines[i]
  let t := appendLog i .press
    (putLine i { l with state := .closedTiming, holdCount := 0, deferred := l.record.hold ≠ .none } s)
  if l.record.hold = .none then fire l.record.press t else t

/-- The release of a closed line (R109, Open); a deferred press action fires. -/
def takeRelease (i : Fin 8) (s : State) : State :=
  let l := s.tfu.lines[i]
  let t := appendLog i .release (putLine i { l with state := .opened, deferred := false } s)
  if l.state = .closedTiming && l.deferred then fire l.record.press t else t

/-- The transition of one line at a tick, but for the hold itself (R108, R109). -/
def lineStep (i : Fin 8) (s : State) : State :=
  let l := s.tfu.lines[i]
  match l.state with
  | .disabled => s
  | .opened => if l.closed then takePress i s else s
  | .closedTiming => if l.closed then putLine i { l with holdCount := l.holdCount + 1 } s else takeRelease i s
  | .closedHeld => if l.closed then s else takeRelease i s

/-- The hold count of a line in CLOSED_TIMING has reached its hold time (R109). -/
def holdReached (i : Fin 8) (s : State) : Bool :=
  s.tfu.lines[i].state = .closedTiming && 10 * s.tfu.lines[i].record.holdTime ≤ s.tfu.lines[i].holdCount

/-- The tick's transitions wait at a line, or at none. -/
def setScan (scan : Option (Fin 8)) (s : State) : State := { s with tfu := { s.tfu with scan := scan } }

/-- The transitions of the tick, line by line; they wait at a line whose hold falls due, for HOLD to take it. -/
def scanLines : List (Fin 8) → State → State
  | [], s => setScan none s
  | i :: rest, s =>
    if holdReached i (lineStep i s) then setScan (some i) (lineStep i s) else scanLines rest (lineStep i s)

/-- The lines in ascending order (R108). -/
def allLines : List (Fin 8) := [0, 1, 2, 3, 4, 5, 6, 7]

/-- The hold of a line falls due. -/
def holdDue (i : Fin 8) (s : State) : Bool := s.tfu.scan = some i && holdReached i s

/-- A hold: HOLD is logged, the hold action fires, the line enters CLOSED_HELD (R109), and the transitions of the tick go
on with the lines above it. -/
def takeHold (i : Fin 8) (s : State) : State :=
  let l := s.tfu.lines[i]
  scanLines (allLines.filter fun j => i < j)
    (fire l.record.hold (appendLog i .hold (putLine i { l with state := .closedHeld, deferred := false } s)))

/-- TFU's part of a millisecond tick: the tick count, the debouncing of every line and the transitions (R107 to R109,
R112). -/
def footswitchTick (pins : BitVec 8) (s : State) : State :=
  scanLines allLines { s with tfu := { s.tfu with
    tick := s.tfu.tick + 1
    lines := tab fun i => s.tfu.lines[i].debounce (pins.getLsbD i.val) } }

/-- A line record is replaced: a disable followed, if the record is enabled, by an enable (R110). -/
def writeLine (i : Fin 8) (r : LineRecord) (s : State) : State :=
  putLine i { s.tfu.lines[i] with
    record := r, state := if r.enabled then .opened else .disabled, holdCount := 0, deferred := false } s

end Sys2Proof.Machine
end

