-- ==== Sys2Proof/Machine/Router.lean ====
section
/-! DEFINITION. The Output Router: claimants, owners, ramps, trims and meters (R132 to R144). -/

namespace Sys2Proof.Machine

/-- A claimant's sample for the frame (Table 7-1). -/
def sourceSample (inbound : Vector Int 8) (outputs : Vector (Option (Int × Int)) 4) : Source → Int
  | .panic (some i) => inbound[i]
  | .panic none => 0
  | .tuner _ => 0
  | .chain c .left => (outputs[c].getD (0, 0)).1
  | .chain c .right => (outputs[c].getD (0, 0)).2
  | .direct i => inbound[i]
  | .fill => 0

/-- The owner of a slot: the first claimant of Table 7-2 whose condition holds (R135). -/
def ownerOf (panic : Bool) (mute : Fin 4 → Bool) (outputs : Vector (Option (Int × Int)) 4) (r : Route) : Source :=
  if panic && r.participating then .panic r.secondary
  else
    let low : Source := match r.secondary with
      | some i => .direct i
      | none => .fill
    match r.primary with
    | none => low
    | some p =>
      if mute p.1 && !r.exempt then .tuner p.1
      else if outputs[p.1].isSome then .chain p.1 p.2
      else low

/-- The owner and ramp records for the frame: a change of owner starts a ramp at k = 0 from the owner held before
(R136 to R138). -/
def decideOwner (held : SlotOwner) (owner : Source) : SlotOwner :=
  if owner = held.owner then held else { owner := owner, outgoing := some held.owner, k := 0 }

/-- The ramped sample of the frame (R137). -/
def ramped (sample : Source → Int) (o : SlotOwner) : Int :=
  match o.outgoing with
  | some out => crossfade 64 o.k (sample out) (sample o.owner)
  | none => sample o.owner

/-- A running ramp's position rises by 1 at the end of the frame (R137). -/
def SlotOwner.advance (o : SlotOwner) : SlotOwner :=
  match o.outgoing with
  | some _ => { o with k := o.k + 1 }
  | none => o

/-- The output sample of a slot (R139). -/
def slotOutput (trim : Nat) (sample : Int) : Int := saturate (roundDiv (sample * trim) 32768)

/-- The meters after a frame: a greater |output| replaces the peak and sets the fresh flag (R143). -/
def meterUpdate (box : Box Nat) (out : Int) : Box Nat := if box.record < out.natAbs then Box.write out.natAbs else box

/-- The owners decided for the frame (R135, R136). -/
def decidedOwners (s : State) : Vector SlotOwner 8 :=
  tab fun i => decideOwner s.ort.owners[i] (ownerOf s.ort.panic s.tun.mute s.chp.outputs s.ort.routes[i])

/-- The eight output samples of the frame (R139). -/
def slotOutputs (inbound : Vector Int 8) (s : State) : Vector Int 8 :=
  tab fun i => slotOutput s.ort.routes[i].trim
    (ramped (sourceSample inbound s.chp.outputs) (decidedOwners s)[i])

/-- ORT's frame, after CHP has formed the chain output pairs (R140): owners, ramps and meters move on, and the output
samples go to LIF, which sends them two frames later (R139, R176). -/
def routerFrame (inbound : Vector Int 8) (s : State) : State :=
  let outs := slotOutputs inbound s
  setBoxes (fun b => { b with meters := tab fun i => meterUpdate b.meters[i] outs[i] })
    { s with
      ort := { s.ort with owners := tab fun i => (decidedOwners s)[i].advance }
      lif := { s.lif with older := s.lif.newer, newer := outs } }

/-- A slot's ramp position has reached 64 (R137). -/
def rampEndDue (i : Fin 8) (s : State) : Bool := s.ort.owners[i].outgoing.isSome && 64 ≤ s.ort.owners[i].k

/-- A ramp ends: the outgoing source becomes none (R137). -/
def takeRampEnd (i : Fin 8) (s : State) : State :=
  { s with ort := { s.ort with owners := upd s.ort.owners i { s.ort.owners[i] with outgoing := none, k := 0 } } }

/-- ORT's response to the link entering SEARCH: every owner FILL and no ramp (R140). -/
def searchRouter (s : State) : State :=
  { s with ort := { s.ort with owners := Vector.replicate 8 { owner := .fill, outgoing := none, k := 0 } } }

end Sys2Proof.Machine
end

