-- ==== Sys2Proof/Machine/Supply.lean ====
section
/-! DEFINITION. The supply measurement, the guard states and the force flag (R163 to R165). -/

namespace Sys2Proof.Machine

/-! ### The schedule (R163) -/

/-- A start that falls due joins one that already waits. -/
def MeasureCause.join (a : Option MeasureCause) (b : MeasureCause) : MeasureCause :=
  match a with
  | some c => { periodic := c.periodic || b.periodic, requested := c.requested || b.requested }
  | none => b

/-- The tick is one of the 250-tick schedule. -/
def Bgv.periodicTick (b : Bgv) : Bool := 249 ≤ b.schedule

/-- BGV's part of a millisecond tick: the schedule counts, and a start falls due on every 250th tick and on the tick
after a request (R163). -/
def Bgv.tick (b : Bgv) : Bgv :=
  { b with
    schedule := if b.periodicTick then 0 else b.schedule + 1
    request := false
    starting :=
      if b.periodicTick || b.request then
        some (MeasureCause.join b.starting { periodic := b.periodicTick, requested := b.request })
      else b.starting }

/-- BGV's part of a millisecond tick. -/
def supplyTick (s : State) : State := { s with bgv := s.bgv.tick }

/-- A measurement starts: a start has fallen due and none is running (R163). -/
def measurementStartDue (s : State) : Bool := s.bgv.starting.isSome && s.bgv.running.isNone

/-- The start of a measurement (R163). -/
def takeMeasurementStart (s : State) : State :=
  { s with bgv := { s.bgv with running := s.bgv.starting, starting := none } }

/-- The cause of a measurement that a *Supply Check* joins. -/
def MeasureCause.joined (c : MeasureCause) : MeasureCause := { c with requested := true }

/-- *Supply Check*: a measurement that runs, or whose start has fallen due or falls due at the next tick, is joined;
otherwise the next tick is chosen (R163). The answer says whether it joined. -/
def supplyCheckJoins (b : Bgv) : Bool :=
  b.running.isSome || b.starting.isSome || b.request || b.periodicTick

/-- BGV after a *Supply Check* (R163). DESIGN CHOICE: one taken while a measurement runs joins that one, also when a
periodic measurement is due at the next tick, which then stays PERIODIC (log entry 40). -/
def Bgv.check (b : Bgv) : Bgv :=
  match b.running with
  | some c => { b with running := some c.joined }
  | none =>
    match b.starting with
    | some c => { b with starting := some c.joined }
    | none => { b with request := true }

/-! ### Readings and the guard (R163, R164) -/

/-- A conversion in units of 2 mV, clamped to 0–3,250 (R163). -/
def conversion (c : Int) : Nat := clampToNat 0 3250 c

/-- The reading of two conversions: (c1 + c2)/10, rounded half up (R163). -/
def readingValue (c1 c2 : Nat) : Nat := roundDivNat (c1 + c2) 10

/-- BGV's fields of the guard replaced. -/
def setGuard (g : GuardState) (force : Bool) (recovery : Nat) (s : State) : State :=
  { s with bgv := { s.bgv with guardState := g, force := force, recovery := recovery } }

/-- A guard entry or exit: SUPPLY is set, mailbox 5 written and an evaluation caused (R164). -/
def guardMoved (s : State) : State := evaluationEvent (writeGovernorBox (raise .supply s))

/-- A completed reading acts on the guard state (R164). -/
def applyReading (n : Nat) (s : State) : State :=
  let t : State := { s with bgv := { s.bgv with reading := some n } }
  match s.bgv.guardState with
  | .normal => if n < 455 then guardMoved (setGuard .auto s.bgv.force 0 t) else t
  | .auto =>
    if 470 ≤ n then
      if s.bgv.recovery = 0 then setGuard .auto s.bgv.force 1 t else guardMoved (setGuard .normal s.bgv.force 0 t)
    else setGuard .auto s.bgv.force 0 t
  | .forced => t

/-- Mailbox 8 is written (R163). -/
def writeSupplyBox (r : SupplyRecord) (s : State) : State :=
  setBoxes (fun b => { b with supply := Box.write r }) s

/-- A measurement completes: mailbox 8 is written, then the reading is applied (R163). -/
def takeReading (cause : MeasureCause) (c1 c2 : Nat) (s : State) : State :=
  applyReading (readingValue c1 c2) (writeSupplyBox
    { reading := some (readingValue c1 c2), c1 := c1, c2 := c2, cause := cause, recovery := s.bgv.recovery }
    { s with bgv := { s.bgv with running := none } })

/-! ### The force flag (R165) -/

/-- *Force Guard On* (R165). -/
def forceOn (s : State) : State :=
  match s.bgv.guardState with
  | .normal => guardMoved (setGuard .forced true 0 s)
  | .auto => writeGovernorBox (setGuard .forced true 0 s)
  | .forced => setGuard .forced true 0 s

/-- *Force Guard Off* (R165). -/
def forceOff (s : State) : State :=
  match s.bgv.guardState with
  | .forced =>
    match s.bgv.reading with
    | some n =>
      if n < 455 then writeGovernorBox (setGuard .auto false 0 s) else guardMoved (setGuard .normal false 0 s)
    | none => guardMoved (setGuard .normal false 0 s)
  | .normal => setGuard .normal false s.bgv.recovery s
  | .auto => setGuard .auto false s.bgv.recovery s

end Sys2Proof.Machine
end

