-- ==== Sys2Proof/Machine/Parcels.lean ====
section
/-! DEFINITION. The parcels at their owning blocks: result codes, body lengths, the guard, the largest replies, and the
effect and reply data of each kind (R186, R187, R201 and the rule of each parcel). -/

namespace Sys2Proof.Machine

/-! ### Result codes (Table 10-1, Table 11-3) -/

/-- The result codes. -/
inductive Code where
  | ok | accepted | badKind | badLength | range | locked | absent | empty | alreadyLive | budget | pool
  deriving DecidableEq, Repr

/-- The value of a result code (Table 11-3). -/
def Code.value : Code → Nat
  | .ok => 0
  | .accepted => 1
  | .badKind => 2
  | .badLength => 3
  | .range => 4
  | .locked => 5
  | .absent => 6
  | .empty => 7
  | .alreadyLive => 8
  | .budget => 9
  | .pool => 10

/-- What the execution of a parcel leaves: the state, the result code, and the data of the reply. -/
structure Answer where
  state : State
  code : Code
  data : List Word
  deriving DecidableEq, Repr

/-- OK with reply data. -/
def okWith (data : List Word) (s : State) : Answer := { state := s, code := .ok, data := data }

/-- A refusal: the state stands and the reply carries the code alone (R187). -/
def refuse (code : Code) (s : State) : Answer := { state := s, code := code, data := [] }

/-- Check 4 of R186 on one index: the rest of the execution, or RANGE. -/
def withIndex (n a : Nat) (s : State) (f : Fin n → Answer) : Answer :=
  match index? n a with
  | some i => f i
  | none => refuse .range s

/-! ### Chains (R3, R24, R26) -/

/-- The chain input record of the body of *Write Chain Input* (R3). -/
def chainInputOf (body : List Word) : ChainInput :=
  { source := clampFin 7 (bodyNat body 1), trim := clampFin 3 (bodyNat body 2), invert := bodyFlag body 3 }

/-- *Write Chain Input* (R3). -/
def effWriteChainInput (body : List Word) (s : State) : Answer :=
  withIndex 4 (bodyNat body 0) s fun c =>
    okWith [] { s with chp := { s.chp with inputs := upd s.chp.inputs c (chainInputOf body) } }

/-- *Set Live Parameter* (R24, R25). -/
def effSetLiveParameter (body : List Word) (s : State) : Answer :=
  withIndex 4 (bodyNat body 0) s fun c =>
    match editLive c (bodyNat body 1) (bodyNat body 2) (bodyTwo body 3).toInt s with
    | some p => okWith (twoWords p.2) p.1
    | none => refuse .range s

/-- *Set Stage Bypass* (R26). -/
def effSetStageBypass (body : List Word) (s : State) : Answer :=
  withIndex 4 (bodyNat body 0) s fun c =>
    match bypassLive c (bodyNat body 1) (fun _ => bodyFlag body 2) s with
    | some p => okWith [flagWord p.2] p.1
    | none => refuse .range s

/-! ### The Curve and Cabinet Store (R38 to R42) -/

/-- A run of points or taps written into a copy, the first of them at body word 2 (R39). -/
def writeRun {n : Nat} (copy : Vector Int n) (first count : Nat) (body : List Word) : Vector Int n :=
  tab fun i => if first ≤ i.val && i.val < first + count then pointOf (bodyWord body (2 + (i.val - first))) else copy[i]

/-- The words of a run of a copy (R42). -/
def readRun {n : Nat} (copy : Vector Int n) (first count : Nat) : List Word :=
  (List.range count).map fun j => pointWord (copy.toList.getD (first + j) 0)

/-- A curve slot after a write, committed if the run includes point 256 (R39, R40). -/
def CurveSlot.write (c : CurveSlot) (first count : Nat) (body : List Word) : CurveSlot :=
  let shadow := writeRun c.shadow first count body
  { live := if first + count = 257 then shadow else c.live, shadow := shadow }

/-- A cabinet slot after a write, committed if the run includes tap 127 (R40, R41). -/
def CabSlot.write (c : CabSlot) (first count : Nat) (body : List Word) : CabSlot :=
  let shadow := writeRun c.shadow first count body
  { live := if first + count = 128 then shadow else c.live, shadow := shadow }

/-- *Write Curve Points* (R39). -/
def effWriteCurvePoints (body : List Word) (s : State) : Answer :=
  let count := body.length - 2
  withIndex 16 (bodyNat body 0) s fun k =>
    withIndex 257 (bodyNat body 1) s fun first =>
      if 257 < first.val + count then refuse .range s
      else okWith [flagWord (first.val + count = 257)]
        { s with chp := { s.chp with curves := upd s.chp.curves k (s.chp.curves[k].write first.val count body) } }

/-- *Read Curve Points* (R42). -/
def effReadCurvePoints (body : List Word) (s : State) : Answer :=
  let count := clampNat 1 48 (bodyNat body 2)
  withIndex 16 (bodyNat body 0) s fun k =>
    withIndex 257 (bodyNat body 1) s fun first =>
      if 257 < first.val + count then refuse .range s
      else okWith ([word k.val, word first.val] ++ readRun s.chp.curves[k].live first.val count) s

/-- *Write Cab Taps* (R41). -/
def effWriteCabTaps (body : List Word) (s : State) : Answer :=
  let count := body.length - 2
  withIndex 8 (bodyNat body 0) s fun k =>
    withIndex 128 (bodyNat body 1) s fun first =>
      if 128 < first.val + count then refuse .range s
      else okWith [flagWord (first.val + count = 128)]
        { s with chp := { s.chp with cabs := upd s.chp.cabs k (s.chp.cabs[k].write first.val count body) } }

/-- *Read Cab Taps* (R42). -/
def effReadCabTaps (body : List Word) (s : State) : Answer :=
  let count := clampNat 1 48 (bodyNat body 2)
  withIndex 8 (bodyNat body 0) s fun k =>
    withIndex 128 (bodyNat body 1) s fun first =>
      if 128 < first.val + count then refuse .range s
      else okWith ([word k.val, word first.val] ++ readRun s.chp.cabs[k].live first.val count) s

/-! ### The pool, the scene store and the contexts (R62 to R68, R72, R93) -/

/-- *Read Pool* (R62). -/
def effReadPool (s : State) : Answer :=
  okWith (word s.dpl.free.length :: holderWords s.scc.ctxs) s

/-- A scene slot replaced. -/
def putScene (n : Fin 128) (scene : Option Scene) (s : State) : State :=
  { s with scc := { s.scc with scenes := upd s.scc.scenes n scene } }

/-- A section as *Write Scene Header* makes it in an absent slot (R64). -/
def SceneSection.fresh : SceneSection :=
  { mode := .hold, pan := 0, count := 0, stages := Vector.replicate 12 StageRecord.default }

/-- The slot after *Write Scene Header* (R64). -/
def headerWritten (old : Option Scene) (exponent : Nat) (tempo : Option Nat) : Scene :=
  match old with
  | some scene => { scene with exponent := exponent, tempo := tempo }
  | none => { exponent := exponent, tempo := tempo, sections := Vector.replicate 4 SceneSection.fresh }

/-- *Write Scene Header* (R64). -/
def effWriteSceneHeader (body : List Word) (s : State) : Answer :=
  withIndex 128 (bodyNat body 0) s fun n =>
    let tempo := if bodyFlag body 2 then some (clampNat 3000 24000 (bodyNat body 3)) else none
    okWith [] (putScene n (some (headerWritten s.scc.scenes[n] (clampNat 6 12 (bodyNat body 1)) tempo)) s)

/-- A section of a scene replaced. -/
def Scene.putSection (scene : Scene) (c : Fin 4) (t : SceneSection) : Scene :=
  { scene with sections := upd scene.sections c t }

/-- A section with its mode, pan and stage count replaced; the stage record positions are kept (R65). -/
def SceneSection.rewrite (t : SceneSection) (body : List Word) : SceneSection :=
  { t with
    mode := sectionModeOf (bodyNat body 2)
    pan := clampInt (-64) 64 (bodyWord body 3).toInt
    count := clampNat 0 12 (bodyNat body 4) }

/-- *Write Section* (R65). -/
def effWriteSection (body : List Word) (s : State) : Answer :=
  withIndex 128 (bodyNat body 0) s fun n =>
    withIndex 4 (bodyNat body 1) s fun c =>
      match s.scc.scenes[n] with
      | none => refuse .absent s
      | some scene =>
        okWith [] (putScene n (some (scene.putSection c (scene.sections[c].rewrite body))) s)

/-- The words of record j of *Write Stages*. -/
def recordBody (body : List Word) (j : Nat) : List Word := (body.drop (3 + 10 * j)).take 10

/-- The stage record positions after a run is written (R66). -/
def writeRecords (stages : Vector StageRecord 12) (first count : Nat) (body : List Word) : Vector StageRecord 12 :=
  tab fun i => if first ≤ i.val && i.val < first + count then recordOf (recordBody body (i.val - first)) else stages[i]

/-- *Write Stages* (R66). -/
def effWriteStages (body : List Word) (s : State) : Answer :=
  let count := (body.length - 3) / 10
  withIndex 128 (bodyNat body 0) s fun n =>
    withIndex 4 (bodyNat body 1) s fun c =>
      withIndex 12 (bodyNat body 2) s fun first =>
        if 12 < first.val + count then refuse .range s
        else match s.scc.scenes[n] with
          | none => refuse .absent s
          | some scene =>
            let t := scene.sections[c]
            okWith [] (putScene n (some (scene.putSection c
              { t with stages := writeRecords t.stages first.val count body })) s)

/-- *Erase Scene* (R67). -/
def effEraseScene (body : List Word) (s : State) : Answer :=
  withIndex 128 (bodyNat body 0) s fun n => okWith [] (putScene n none s)

/-- The tempo word of *Read Scene*; for an absent tempo it is a free value (log entry 1). -/
def tempoWord : Option Nat → Word
  | some t => word t
  | none => Config.absentTempoWord

/-- The records *Read Scene* returns from a position up: five, or fewer at the top (R68). -/
def readRecords (stages : Vector StageRecord 12) (first : Nat) : List StageRecord := (stages.toList.drop first).take 5

/-- The reply data of *Read Scene* (R68, R201). -/
def sceneWords (scene : Scene) (c : Fin 4) (first : Nat) : List Word :=
  let t := scene.sections[c]
  let records := readRecords t.stages first
  [word (scene.exponent + bitIf scene.tempo.isSome 32768), tempoWord scene.tempo, word (t.mode.code + 256 * t.count),
    signedWord t.pan, word (first + 256 * records.length)] ++ records.flatMap recordWords

/-- *Read Scene* (R68). -/
def effReadScene (body : List Word) (s : State) : Answer :=
  withIndex 128 (bodyNat body 0) s fun n =>
    withIndex 4 (bodyNat body 1) s fun c =>
      withIndex 12 (bodyNat body 2) s fun first =>
        match s.scc.scenes[n] with
        | none => refuse .absent s
        | some scene => okWith (sceneWords scene c first.val) s

/-- The result code of a request that failed at its start (R72). -/
def SceneOutcome.result : SceneOutcome → Code
  | .empty => .empty
  | .absent => .absent
  | .alreadyLive => .alreadyLive
  | .budget => .budget
  | .pool => .pool
  | .switched => .accepted
  | .superseded => .accepted
  | .aborted => .accepted

/-- The answer to a scene request: ACCEPTED, or the code of the check that failed (R72, R187). -/
def requestAnswer (r : Request) (s : State) : Answer :=
  let a := requestArrives r s
  match a.2 with
  | none => { state := a.1, code := .accepted, data := [] }
  | some o => { state := a.1, code := o.result, data := [] }

/-- *Select* (R72). -/
def effSelect (body : List Word) (s : State) : Answer :=
  withIndex 128 (bodyNat body 0) s fun n => requestAnswer (.select n (bodyFlag body 1)) s

/-- *Call* (R72). -/
def effCall (body : List Word) (s : State) : Answer :=
  withIndex 128 (bodyNat body 0) s fun n => requestAnswer (.call n) s

/-- *Return* (R72). -/
def effReturn (s : State) : Answer := requestAnswer .ret s

/-- *Read Context Status* (R93). -/
def effReadContextStatus (s : State) : Answer :=
  okWith (chains.flatMap fun c => chainWords s.bgv.bypass[c] s.scc.fades[c] s.scc.ctxs[c]) s

/-! ### Tempo, taps and footswitches (R99, R102, R105, R110, R113) -/

/-- *Set Tempo* (R99). -/
def effSetTempo (body : List Word) (s : State) : Answer :=
  let t := applyTempo .parcel (bodyNat body 0) s
  okWith (twoWords t.tfu.period ++ [word (tempoOf t.hz t.tfu.period)]) t

/-- *Tempo Reset* (R102). -/
def effTempoReset (s : State) : Answer := okWith [] { s with tfu := { s.tfu with resetFlag := true } }

/-- The code of a tap classification (Table 11-5). -/
def TapClass.code : TapClass → Nat
  | .first => 0
  | .restart => 1
  | .ignored => 2
  | .applied => 3

/-- *Tap* (R105). -/
def effTap (s : State) : Answer :=
  let t := takeTap s
  okWith ([word (classifyTap s).code, word t.tfu.taps.length] ++ twoWords t.tfu.period) t

/-- *Write Footswitch Line* (R110). -/
def effWriteFootswitchLine (body : List Word) (s : State) : Answer :=
  withIndex 8 (bodyNat body 0) s fun i =>
    okWith (lineRecordWords i (lineRecordOf body)) (writeLine i (lineRecordOf body) s)

/-- *Read Footswitch Log* (R113). -/
def effReadFootswitchLog (body : List Word) (s : State) : Answer :=
  let read := s.tfu.log.take (clampNat 1 16 (bodyNat body 0))
  okWith (word read.length :: read.flatMap logWords)
    { s with tfu := { s.tfu with log := s.tfu.log.drop (clampNat 1 16 (bodyNat body 0)) } }

/-! ### The tuner (R116, R117, R120) -/

/-- *Write Tuner Channel* (R116). -/
def effWriteTunerChannel (body : List Word) (s : State) : Answer :=
  withIndex 4 (bodyNat body 0) s fun c =>
    let mode := listenModeOf (bodyNat body 1)
    okWith [word c.val, word mode.code, flagWord (bodyFlag body 2)] (writeChannel c mode (bodyFlag body 2) s)

/-- *Set Tuner Engage* (R117). -/
def effSetTunerEngage (body : List Word) (s : State) : Answer :=
  let engaged := flagAction (bodyNat body 0) s.tun.engaged
  okWith [flagWord engaged] (setEngaged engaged s)

/-- *Set Tuner Reference* (R120). -/
def effSetTunerReference (body : List Word) (s : State) : Answer :=
  let reference := clampNat 4150 4660 (bodyNat body 0)
  okWith [word reference] { s with tun := { s.tun with reference := reference } }

/-! ### Routes, panic and show lock (R133, R141, R145 to R148) -/

/-- *Write Route* (R133). -/
def effWriteRoute (body : List Word) (s : State) : Answer :=
  withIndex 8 (bodyNat body 0) s fun i =>
    okWith (word i.val :: routeWords (routeOf body))
      { s with ort := { s.ort with routes := upd s.ort.routes i (routeOf body) } }

/-- *Read Routes* (R145). -/
def effReadRoutes (s : State) : Answer :=
  okWith (word (bitIf s.ort.panic 1 + bitIf s.lct.showLocked 2) ::
    (List.finRange 8).flatMap fun i => slotRouteWords s.ort.routes[i] s.ort.owners[i]) s

/-- *Set Panic* (R141). -/
def effSetPanic (body : List Word) (s : State) : Answer :=
  let panic := flagAction (bodyNat body 0) s.ort.panic
  okWith [flagWord panic] { s with ort := { s.ort with panic := panic } }

/-- *Show Lock On* (R146): no permit stands after it. -/
def effShowLockOn (s : State) : Answer :=
  okWith [flagWord true] { s with lct := { s.lct with showLocked := true, permit := false } }

/-- *Show Lock Off* (R147). -/
def effShowLockOff (s : State) : Answer :=
  okWith [flagWord false] { s with lct := { s.lct with showLocked := false } }

/-- *Permit* (R148). -/
def effPermit (s : State) : Answer :=
  okWith [flagWord s.lct.showLocked] { s with lct := { s.lct with permit := true } }

/-! ### The supply guard (R163, R165) -/

/-- The reply data of the force parcels: guard state and force flag. -/
def guardWords (s : State) : List Word := [word s.bgv.guardState.code, flagWord s.bgv.force]

/-- *Force Guard On* (R165). -/
def effForceGuardOn (s : State) : Answer := okWith (guardWords (forceOn s)) (forceOn s)

/-- *Force Guard Off* (R165). -/
def effForceGuardOff (s : State) : Answer := okWith (guardWords (forceOff s)) (forceOff s)

/-- *Supply Check* (R163). -/
def effSupplyCheck (s : State) : Answer :=
  okWith [flagWord (supplyCheckJoins s.bgv)] { s with bgv := s.bgv.check }

/-! ### The link and the lane (R178, R190, R193, R195 to R197) -/

/-- *Write Link Format* (R178). -/
def effWriteLinkFormat (body : List Word) (s : State) : Answer :=
  let i := slotFormatOf (bodyNat body 0)
  let o := slotFormatOf (bodyNat body 1)
  okWith [word i.code, word o.code] { s with lif := { s.lif with inFormat := i, outFormat := o } }

/-- A fresh-flag word: bit i for the i-th of sixteen flags. -/
def flagsWord (flags : List Bool) : Word := word ((flags.zipIdx.map fun p => bitIf p.1 (2 ^ p.2)).sum)

/-- The indices of a run of mailboxes (R190). -/
def boxRun (first : Fin 17) (count : Nat) : List (Fin 17) :=
  (List.finRange 17).filter fun i => first.val ≤ i.val && i.val < first.val + count

/-- The reply data of *Read Mailboxes* (R203). -/
def boxWords (b : Mailboxes) (first : Fin 17) (count : Nat) : List Word :=
  let run := boxRun first count
  let flags := run.map b.fresh
  [word (first.val + 256 * run.length), flagsWord (flags.take 16), flagsWord (flags.drop 16)] ++ run.flatMap b.words

/-- A governor mailbox as a read leaves it: dips and cuts 0, fresh flag clear (R162, R190). -/
def Box.readGovernor (b : Box GovernorRecord) : Box GovernorRecord :=
  { record := { b.record with dips := 0, cuts := 0 }, fresh := false }

/-- The mailboxes as a read of the run that `p` accepts leaves them: fresh flags clear, dips and cuts 0, peaks 0
(R144, R162, R190). -/
def Mailboxes.read (b : Mailboxes) (p : Nat → Bool) : Mailboxes :=
  { tuner := tab fun i => if p i.val then b.tuner[i].clear else b.tuner[i]
    tempo := if p 4 then b.tempo.clear else b.tempo
    governor := if p 5 then b.governor.readGovernor else b.governor
    scene := if p 6 then b.scene.clear else b.scene
    link := if p 7 then b.link.clear else b.link
    supply := if p 8 then b.supply.clear else b.supply
    meters := tab fun i => if p (9 + i.val) then { record := 0, fresh := false } else b.meters[i] }

/-- *Read Mailboxes* (R190). -/
def effReadMailboxes (body : List Word) (s : State) : Answer :=
  let count := clampNat 1 17 (bodyNat body 1)
  withIndex 17 (bodyNat body 0) s fun first =>
    let p : Nat → Bool := fun i => first.val ≤ i && i < first.val + count
    let t := setBoxes (fun b => b.read p) s
    okWith (boxWords s.lct.boxes first count)
      (if p 5 then { t with bgv := { t.bgv with dips := 0, cuts := 0 } } else t)

/-- *Read Notices* (R193). -/
def effReadNotices (s : State) : Answer :=
  okWith [classWord s.lct.notices] { s with lct := { s.lct with notices := 0 } }

/-- *Write Notice Mask* (R193). -/
def effWriteNoticeMask (body : List Word) (s : State) : Answer :=
  let mask := lowByte (bodyWord body 0)
  okWith [classWord mask] { s with lct := { s.lct with mask := mask } }

/-- The nine counters in the order of Table 10-3. -/
def counterWords (n : Counters) : List Word :=
  [word n.laneChecks, word n.overruns, word n.noise, word n.frameChecks, word n.slips, word n.losses,
    word n.unsupported, word n.superseded, word n.logOverflows]

/-- *Read Counters* (R195). -/
def effReadCounters (body : List Word) (s : State) : Answer :=
  okWith (counterWords s.lct.counters) (if bodyFlag body 0 then setCounters (fun _ => Counters.zero) s else s)

/-- *Identify* (R196). -/
def effIdentify (s : State) : Answer :=
  okWith [Config.vendorCode, Config.partCode, Config.revisionCode] s

/-- *Restart* (R197): the pending set is emptied, then each block returns its running state to its start. Its reply
carries no data. -/
def effRestart (s : State) : Answer :=
  let emptied : State := { s with lct := { s.lct with notices := 0 } }
  let t := forgetTaps (restartScc emptied)
  okWith [] (restartTuner { t with tfu := { t.tfu with log := [] } })

/-! ### The table of kinds (Table 11-4) -/

/-- The body lengths a kind accepts (Table 11-4). -/
def kindAccepts : Kind → Nat → Bool
  | .writeChainInput, n => n = 4
  | .setLiveParameter, n => n = 5
  | .setStageBypass, n => n = 3
  | .writeCurvePoints, n => 3 ≤ n && n ≤ 50
  | .readCurvePoints, n => n = 3
  | .writeCabTaps, n => 3 ≤ n && n ≤ 50
  | .readCabTaps, n => n = 3
  | .readPool, n => n = 0
  | .writeSceneHeader, n => n = 4
  | .writeSection, n => n = 5
  | .writeStages, n => n = 13 || n = 23 || n = 33 || n = 43 || n = 53
  | .eraseScene, n => n = 1
  | .readScene, n => n = 3
  | .select, n => n = 2
  | .call, n => n = 1
  | .ret, n => n = 0
  | .readContextStatus, n => n = 0
  | .setTempo, n => n = 1
  | .tempoReset, n => n = 0
  | .tap, n => n = 0
  | .writeFootswitchLine, n => n = 8
  | .readFootswitchLog, n => n = 1
  | .writeTunerChannel, n => n = 3
  | .setTunerEngage, n => n = 1
  | .setTunerReference, n => n = 1
  | .writeRoute, n => n = 5
  | .readRoutes, n => n = 0
  | .setPanic, n => n = 1
  | .showLockOn, n => n = 0
  | .showLockOff, n => n = 0
  | .permit, n => n = 0
  | .forceGuardOn, n => n = 0
  | .forceGuardOff, n => n = 0
  | .supplyCheck, n => n = 0
  | .writeLinkFormat, n => n = 2
  | .readMailboxes, n => n = 2
  | .readNotices, n => n = 0
  | .writeNoticeMask, n => n = 1
  | .readCounters, n => n = 1
  | .identify, n => n = 0
  | .restart, n => n = 0

/-- The guarded parcels (R150, Table 11-4). -/
def kindGuarded : Kind → Bool
  | .writeChainInput => true
  | .setLiveParameter => false
  | .setStageBypass => false
  | .writeCurvePoints => true
  | .readCurvePoints => false
  | .writeCabTaps => true
  | .readCabTaps => false
  | .readPool => false
  | .writeSceneHeader => true
  | .writeSection => true
  | .writeStages => true
  | .eraseScene => true
  | .readScene => false
  | .select => false
  | .call => false
  | .ret => false
  | .readContextStatus => false
  | .setTempo => false
  | .tempoReset => false
  | .tap => false
  | .writeFootswitchLine => true
  | .readFootswitchLog => false
  | .writeTunerChannel => true
  | .setTunerEngage => false
  | .setTunerReference => false
  | .writeRoute => true
  | .readRoutes => false
  | .setPanic => false
  | .showLockOn => false
  | .showLockOff => true
  | .permit => false
  | .forceGuardOn => false
  | .forceGuardOff => false
  | .supplyCheck => false
  | .writeLinkFormat => true
  | .readMailboxes => false
  | .readNotices => false
  | .writeNoticeMask => false
  | .readCounters => false
  | .identify => false
  | .restart => true

/-- The largest reply of a kind, in words of the whole parcel (Table 11-4). -/
def kindLargest : Kind → Nat
  | .writeChainInput => 4
  | .setLiveParameter => 6
  | .setStageBypass => 5
  | .writeCurvePoints => 5
  | .readCurvePoints => 54
  | .writeCabTaps => 5
  | .readCabTaps => 54
  | .readPool => 29
  | .writeSceneHeader => 4
  | .writeSection => 4
  | .writeStages => 4
  | .eraseScene => 4
  | .readScene => 59
  | .select => 4
  | .call => 4
  | .ret => 4
  | .readContextStatus => 56
  | .setTempo => 7
  | .tempoReset => 4
  | .tap => 8
  | .writeFootswitchLine => 12
  | .readFootswitchLog => 37
  | .writeTunerChannel => 7
  | .setTunerEngage => 5
  | .setTunerReference => 5
  | .writeRoute => 9
  | .readRoutes => 53
  | .setPanic => 5
  | .showLockOn => 5
  | .showLockOff => 5
  | .permit => 5
  | .forceGuardOn => 6
  | .forceGuardOff => 6
  | .supplyCheck => 5
  | .writeLinkFormat => 6
  | .readMailboxes => 62
  | .readNotices => 5
  | .writeNoticeMask => 5
  | .readCounters => 13
  | .identify => 7
  | .restart => 4

/-- The effect of a kind at its owning block, on a state whose permit has been consumed. -/
def kindEffect : Kind → List Word → State → Answer
  | .writeChainInput, body, s => effWriteChainInput body s
  | .setLiveParameter, body, s => effSetLiveParameter body s
  | .setStageBypass, body, s => effSetStageBypass body s
  | .writeCurvePoints, body, s => effWriteCurvePoints body s
  | .readCurvePoints, body, s => effReadCurvePoints body s
  | .writeCabTaps, body, s => effWriteCabTaps body s
  | .readCabTaps, body, s => effReadCabTaps body s
  | .readPool, _, s => effReadPool s
  | .writeSceneHeader, body, s => effWriteSceneHeader body s
  | .writeSection, body, s => effWriteSection body s
  | .writeStages, body, s => effWriteStages body s
  | .eraseScene, body, s => effEraseScene body s
  | .readScene, body, s => effReadScene body s
  | .select, body, s => effSelect body s
  | .call, body, s => effCall body s
  | .ret, _, s => effReturn s
  | .readContextStatus, _, s => effReadContextStatus s
  | .setTempo, body, s => effSetTempo body s
  | .tempoReset, _, s => effTempoReset s
  | .tap, _, s => effTap s
  | .writeFootswitchLine, body, s => effWriteFootswitchLine body s
  | .readFootswitchLog, body, s => effReadFootswitchLog body s
  | .writeTunerChannel, body, s => effWriteTunerChannel body s
  | .setTunerEngage, body, s => effSetTunerEngage body s
  | .setTunerReference, body, s => effSetTunerReference body s
  | .writeRoute, body, s => effWriteRoute body s
  | .readRoutes, _, s => effReadRoutes s
  | .setPanic, body, s => effSetPanic body s
  | .showLockOn, _, s => effShowLockOn s
  | .showLockOff, _, s => effShowLockOff s
  | .permit, _, s => effPermit s
  | .forceGuardOn, _, s => effForceGuardOn s
  | .forceGuardOff, _, s => effForceGuardOff s
  | .supplyCheck, _, s => effSupplyCheck s
  | .writeLinkFormat, body, s => effWriteLinkFormat body s
  | .readMailboxes, body, s => effReadMailboxes body s
  | .readNotices, _, s => effReadNotices s
  | .writeNoticeMask, body, s => effWriteNoticeMask body s
  | .readCounters, body, s => effReadCounters body s
  | .identify, _, s => effIdentify s
  | .restart, _, s => effRestart s

end Sys2Proof.Machine
end

