-- ==== Sys2Proof/Machine/Lane.lean ====
section
/-! DEFINITION. The Lane Controller: the assembler, the inbound hold, the execution of a parcel and its reply, the
words that leave the outbound queue (R180 to R188). -/

namespace Sys2Proof.Machine

/-! ### The outbound queue (R185) -/

/-- A lane word for LIF, and the queue without it: the oldest word of the queue, or the idle word of an empty one
(R185). -/
def takeLaneWord (s : State) : Word × State :=
  match s.lct.queue with
  | [] => (0, s)
  | [] :: rest => (0, { s with lct := { s.lct with queue := rest, headSent := false } })
  | [w] :: rest => (w, { s with lct := { s.lct with queue := rest, headSent := false } })
  | (w :: v :: words) :: rest =>
    (w, { s with lct := { s.lct with queue := (v :: words) :: rest, headSent := true } })

/-- A parcel whose words have begun to leave is removed with its remaining words, as the link enters SEARCH (R185). -/
def dropPartial (s : State) : State :=
  if s.lct.headSent then { s with lct := { s.lct with queue := s.lct.queue.drop 1, headSent := false } } else s

/-! ### Execution (R183 to R188) -/

/-- The largest reply of a parcel; a refusal of 4 words for an unknown kind (R183). -/
def Parcel.largestReply (p : Parcel) : Nat :=
  match Kind.ofCode p.kind with
  | some k => kindLargest k
  | none => 4

/-- The queue has room for the largest reply of a parcel (R183). -/
def hasRoom (p : Parcel) (s : State) : Bool :=
  queueLength s.lct.queue + p.largestReply ≤ Config.queueWords

/-- A permit held is consumed (R149). -/
def consumePermit (s : State) : State := { s with lct := { s.lct with permit := false } }

/-- The guard refuses a kind: it is guarded, the show lock is on and no permit is held (R150). -/
def guardRefuses (k : Kind) (s : State) : Bool := kindGuarded k && s.lct.showLocked && !s.lct.permit

/-- What a parcel's execution answers: the common checks in their order, then the owning block (R186). The permit is
consumed after the guard check, whatever the outcome (R149). -/
def parcelAnswer (p : Parcel) (s : State) : Answer :=
  match Kind.ofCode p.kind with
  | none => refuse .badKind (consumePermit s)
  | some k =>
    if !kindAccepts k p.body.length then refuse .badLength (consumePermit s)
    else if guardRefuses k s then refuse .locked (consumePermit s)
    else kindEffect k p.body (consumePermit s)

/-- The state with the place of a reply at the end of the queue, its words still to come. A parcel's reply is in the
queue before any class that its execution sets joins the pending set (R193, R197). -/
def executing (s : State) : State := enqueue [] s

/-- The state with its queue replaced. -/
def setQueue (queue : List (List Word)) (s : State) : State := { s with lct := { s.lct with queue := queue } }

/-- What a parcel's execution leaves, with its reply still to be queued. -/
def executed (p : Parcel) (s : State) : Answer :=
  let a := parcelAnswer p (executing s)
  { a with state := setQueue s.lct.queue a.state }

/-- A reply is queued: the command's kind and tag, the result code and the data (R187). -/
def reply (p : Parcel) (a : Answer) : State :=
  enqueue (parcelWords p.kind p.tag (word a.code.value :: a.data)) a.state

/-- A parcel executes and its reply is queued (R186, R187). -/
def executeParcel (p : Parcel) (s : State) : State := reply p (executed p s)

/-- A good parcel reaches dispatch: it executes at once if the hold is empty and the queue has room for its largest
reply, joins the hold if that keeps fewer than 2 parcels, and is discarded otherwise (R183, R184). -/
def arriveParcel (p : Parcel) (s : State) : State :=
  if s.lct.hold.isEmpty && hasRoom p s then executeParcel p s
  else if s.lct.hold.length < 2 then { s with lct := { s.lct with hold := s.lct.hold ++ [p] } }
  else raise .lane (setCounters (fun n => { n with overruns := countUp n.overruns }) s)

/-- The parcels at the head of the hold execute while there is room, at most `fuel` of them (R184). -/
def drainHold : Nat → State → State
  | 0, s => s
  | fuel + 1, s =>
    match s.lct.hold with
    | [] => s
    | p :: rest =>
      if hasRoom p s then drainHold fuel (executeParcel p { s with lct := { s.lct with hold := rest } }) else s

/-- The lane word of an outbound frame leaves, and the hold is tested against the room it makes (R184, R185). A notice
that has fallen due is queued first (R192). -/
def laneOut (s : State) : Word × State :=
  let w := takeLaneWord (noticeIfDue s)
  (w.1, drainHold 2 w.2)

/-! ### The assembler (R180 to R182) -/

/-- The assembler replaced. -/
def setAssembler (a : Assembler) (s : State) : State := { s with lct := { s.lct with assembler := a } }

/-- A parcel in assembly is abandoned (R182). -/
def abandon (s : State) : State := setAssembler .outside s

/-- The assembler takes a lane word (R180). The word that reaches the parcel's length completes it. -/
def assembleWord (w : Word) (s : State) : State :=
  match s.lct.assembler with
  | .outside =>
    if w = 0 then s
    else if isLead w then setAssembler (.inside [w] (leadLength w + 2)) s
    else setCounters (fun n => { n with noise := countUp n.noise }) s
  | .inside words left =>
    if left ≤ 1 then { s with lct := { s.lct with assembler := .outside, arrived := some (words ++ [w]) } }
    else setAssembler (.inside (words ++ [w]) (left - 1)) s

/-- A complete parcel waits to be checked. -/
def parcelCompleteDue (s : State) : Bool := s.lct.arrived.isSome

/-- A complete parcel is checked: a good one goes to dispatch, another is discarded with LANE (R181). -/
def takeParcelComplete (s : State) : State :=
  match s.lct.arrived with
  | none => s
  | some words =>
    let t : State := { s with lct := { s.lct with arrived := none } }
    match readParcel words with
    | some p => arriveParcel { kind := p.1, tag := p.2.1, body := p.2.2 } t
    | none => raise .lane (setCounters (fun n => { n with laneChecks := countUp n.laneChecks }) t)

end Sys2Proof.Machine
end

