-- ==== Sys2Proof/Machine/Link.lean ====
section
/-! DEFINITION. The Link Interface: the check byte and the slot formats, the link states, the frame of the whole part,
and the outbound frames (R166 to R179, R199). -/

namespace Sys2Proof.Machine

/-! ### The check byte (R177) -/

/-- One bit of the string enters the remainder register. -/
def crcBit (register : BitVec 8) (bit : Bool) : BitVec 8 :=
  let shifted := register <<< 1
  if register.getLsbD 7 = bit then shifted else shifted ^^^ 0x07

/-- The bits of a word, most significant first. -/
def wordBits {n : Nat} (w : BitVec n) : List Bool := (List.range n).map fun i => w.getMsbD i

/-- The bits of a string enter the register in turn. -/
def crcBits (bits : List Bool) (register : BitVec 8) : BitVec 8 := bits.foldl crcBit register

/-- The 280 bits that the check byte covers: frame number, slot words, lane word (R177). -/
def checkedBits (number : BitVec 8) (slots : Vector (BitVec 32) 8) (lane : Word) : List Bool :=
  wordBits number ++ slots.toList.flatMap (fun w => wordBits w) ++ wordBits lane

/-- The check byte of a frame (R177). -/
def checkByte (number : BitVec 8) (slots : Vector (BitVec 32) 8) (lane : Word) : BitVec 8 :=
  crcBits (checkedBits number slots lane) 0

/-- A frame whose check byte matches its contents is good (R170). -/
def frameGood (f : Frame) : Bool := f.check = checkByte f.number f.slots f.lane

/-! ### Slot formats (R178) -/

/-- The sample of an inbound slot word. -/
def SlotFormat.sample (f : SlotFormat) (w : BitVec 32) : Int :=
  match f with
  | .left => (w.extractLsb' 8 24).toInt
  | .right => (w.extractLsb' 0 24).toInt

/-- The outbound slot word of a sample. -/
def SlotFormat.slotWord (f : SlotFormat) (z : Int) : BitVec 32 :=
  match f with
  | .left => BitVec.ofInt 24 z ++ (0 : BitVec 8)
  | .right => (BitVec.ofInt 24 z).signExtend 32

/-- The eight inbound samples of a frame (R170). -/
def frameSamples (format : SlotFormat) (f : Frame) : Vector Int 8 := tab fun i => format.sample f.slots[i]

/-- Eight samples of silence. -/
def silence : Vector Int 8 := Vector.replicate 8 0

/-! ### The link record and mailbox 7 (R166, R179) -/

/-- The link record replaced. -/
def setLif (f : Lif → Lif) (s : State) : State := { s with lif := f s.lif }

/-- The record of mailbox 7 as the state stands (R179). -/
def linkRecord (s : State) : LinkRecord :=
  { state := s.lif.state, rate := s.lif.rate, slips := s.lct.counters.slips, frameChecks := s.lct.counters.frameChecks }

/-- LIF writes mailbox 7 (R179). -/
def writeLinkBox (s : State) : State := setBoxes (fun b => { b with link := Box.write (linkRecord s) }) s

/-- A change of link state: LINK is set and mailbox 7 written (R179). -/
def changeLink (f : Lif → Lif) (s : State) : State := writeLinkBox (raise .link (setLif f s))

/-! ### Entry to SEARCH (R175, R8, R90, R103, R130, R140, R185) -/

/-- The link record as the link enters SEARCH (R175). -/
def Lif.toSearch (l : Lif) : Lif :=
  { l with state := .search, expected := none, held := silence, misses := 0, periods := 0, span := 0 }

/-- The responses of the blocks but for the governor's (Table 9-2). -/
def searchBlocks (s : State) : State :=
  searchRouter (searchTuner (forgetTaps (searchScc (dropPartial (abandon s)))))

/-- The link enters SEARCH: LIF's own actions, and each block's response at once (R175). The evaluation that the
changes of context state cause is taken at once, since no frames are processed; so is one that still waited (R154). -/
def enterSearch (s : State) : State :=
  let t := searchBlocks (changeLink Lif.toSearch s)
  evaluationEventIf (ctxStates t.scc.ctxs ≠ ctxStates s.scc.ctxs || t.bgv.evaluate) t

/-- A link loss: the counter rises and the link enters SEARCH (R175). -/
def loseLink (s : State) : State :=
  enterSearch (setCounters (fun n => { n with losses := countUp n.losses }) s)

/-! ### SEARCH and MEASURE (R168, R169) -/

/-- The link enters MEASURE (R168). -/
def enterMeasure (s : State) : State := changeLink (fun l => { l with state := .measure }) s

/-- A count lies within the acceptance window of a rate (R169). -/
def inWindow (r : Rate) (count : Nat) : Bool :=
  199 * r.hz * count ≤ 314572800000 && 314572800000 ≤ 201 * r.hz * count

/-- The rate whose window holds a count (Table 9-1). -/
def rateOf (count : Nat) : Option Rate :=
  [Rate.r44100, .r48000, .r88200, .r96000].find? fun r => inWindow r count

/-- The link record at a lock: no frame has been received, no processed frame stands two positions back, and the rate
watch's first span starts at the position that ended the measurement (R169, R170, R172, R176). DEDUCED: that position is
the one that "began the lock" (log entry 42). -/
def Lif.lock (r : Rate) (count : Nat) (l : Lif) : Lif :=
  { l with
    state := .locked, rate := some r, count := some count, expected := none, misses := 0, periods := 0, span := 0
    older := silence, newer := silence }

/-- A lock at a rate; at another rate than the last used it is a relock, which rescales the period and is an evaluation
event (R169, R101, R154). -/
def lockAt (r : Rate) (count : Nat) (s : State) : State :=
  let t := changeLink (Lif.lock r count) s
  if r.hz = s.hz then t else evaluationEvent (rescale s.hz t)

/-- A measurement completes (R169). -/
def measured (count : Nat) (s : State) : State :=
  match rateOf count with
  | some r => lockAt r count s
  | none => setCounters (fun n => { n with unsupported := countUp n.unsupported }) s

/-! ### What is taken before a frame is computed (R73, R80, R102, R154) -/

/-- A switch that falls due at the frame. -/
def switchIfDue (s : State) : State := if switchDue s then takeSwitch s else s

/-- The evaluation before the frame, if an evaluation event has been taken since the last one (R154). -/
def evaluateIfDue (s : State) : State := if s.bgv.evaluate then evaluateNow s else s

/-- The tempo reset, if its flag is set (R102). -/
def resetIfDue (s : State) : State := if s.tfu.resetFlag then takeTempoReset s else s

/-- What is taken before a frame is computed: the switch, the request that a switch without a fade lets start and its
own switch, the evaluation, and the tempo reset. DESIGN CHOICE: a switch that becomes due by the evaluation itself, whose
chain bypass takes the last LOADING context to IDLE, is taken before the frame after this one (R80, R81; log entry
38). -/
def beforeFrame (s : State) : State :=
  resetIfDue (evaluateIfDue (switchIfDue (startIfDue (switchIfDue s))))

/-! ### The frame of the part (R170, R174, R176) -/

/-- A frame through the chains, the tuner and the router, and the advance of the beat clock (R96, R121, R140). -/
def processFrame (inbound : Vector Int 8) (s : State) : State :=
  returnIfDone (advanceClock (routerFrame inbound
    (tunerFrame (chainInputs s.chp.inputs inbound) (chainsFrame inbound s))))

/-- The outbound frame of a number, slot words and lane word, with its check byte (R176). -/
def buildFrame (number : BitVec 8) (slots : Vector (BitVec 32) 8) (lane : Word) : Frame :=
  { number := number, slots := slots, lane := lane, check := checkByte number slots lane }

/-- An outbound frame is sent (R176). -/
def sendFrame (number : BitVec 8) (samples : Vector Int 8) (lane : Word) (s : State) : State :=
  setLif (fun l => { l with
    outNumber := number
    sent := some (buildFrame number (tab fun i => s.lif.outFormat.slotWord samples[i]) lane) }) s

/-- A processed frame and its outbound frame, which carries the results of the processed frame two before it (R176). -/
def runFrame (number : BitVec 8) (inbound : Vector Int 8) (lane : Word) (s : State) : State :=
  sendFrame number s.lif.older lane (processFrame inbound s)

/-! ### The rate watch (R170, R173, R174) -/

/-- The positions of a span of the rate watch (R170). -/
def spanLength : Nat := 64

/-- The span in progress has taken its last position, and its count is complete (R170). DEDUCED: the frame of that position
is processed before the count is tested (log entry 42). -/
def spanEnded (l : Lif) : Bool := l.span = spanLength

/-- An expected position of LOCKED is taken; the one after the last of a span is the first of the next, which runs back to
back with it (R170). -/
def countPosition (s : State) : State :=
  setLif (fun l => { l with span := if l.span < spanLength then l.span + 1 else 1 }) s

/-- The count of a span that has ended is tested: outside the window of the locked rate the link is lost, and within it the
next span starts (R170). -/
def watchRate (count : Nat) (s : State) : State :=
  if spanEnded s.lif then
    if inWindow (s.lif.rate.getD .r48000) count then setLif (fun l => { l with span := 0 }) s else loseLink s
  else s

/-! ### Receiving in LOCKED (R170 to R173) -/

/-- The number of the outbound frame of a concealed frame (R176). -/
def concealedNumber (l : Lif) : BitVec 8 :=
  match l.expected with
  | some n => n + 2
  | none => l.outNumber + 1

/-- A concealed frame before it is processed: the parcel in assembly is lost, the counter rises, mailbox 7 is written
and the expected number rises (R171). -/
def conceal (misses : Nat) (s : State) : State :=
  writeLinkBox (setCounters (fun n => { n with frameChecks := countUp n.frameChecks })
    (setLif (fun l => { l with expected := l.expected.map (· + 1), misses := misses }) (abandon s)))

/-- The frame number differs from the expected one (R172). -/
def slipped (f : Frame) (l : Lif) : Bool :=
  match l.expected with
  | some n => f.number ≠ n
  | none => false

/-- A slip is counted: mailbox 7 is written and the parcel in assembly is lost (R172). -/
def countSlip (s : State) : State :=
  abandon (writeLinkBox (setCounters (fun n => { n with slips := countUp n.slips }) s))

/-- A good frame before it is processed: the hold samples and the expected number follow it, a slip is counted, and the
lane word goes to LCT (R170, R172). -/
def receive (f : Frame) (s : State) : State :=
  let t := setLif (fun l => { l with
    held := frameSamples l.inFormat f, expected := some (f.number + 1), misses := 0 }) s
  assembleWord f.lane (if slipped f s.lif then countSlip t else t)

/-- A concealed frame (R171). -/
def concealedFrame (misses : Nat) (lane : Word) (s : State) : State :=
  runFrame (concealedNumber s.lif) s.lif.held lane (conceal misses s)

/-- A frame at an expected position that shows sync (R170, R171). -/
def lockedFrame (f : Frame) (s : State) : State :=
  let out := laneOut s
  let t := beforeFrame out.2
  if frameGood f then runFrame (f.number + 2) (frameSamples t.lif.inFormat f) out.1 (receive f t)
  else concealedFrame 0 out.1 t

/-! ### HOLDOVER (R173, R174) -/

/-- The link record at the entry to HOLDOVER, whose first period is the third missing position, which ends the rate
watch's span without a test (R173, R174). -/
def Lif.toHoldover (l : Lif) : Lif :=
  { l with state := .holdover, expected := none, held := silence, misses := 0, periods := 1, span := 0 }

/-- A frame on silence, numbered on from the last outbound frame (R174, R176). -/
def silentFrame (s : State) : State :=
  let out := laneOut s
  let t := beforeFrame out.2
  runFrame (t.lif.outNumber + 1) silence out.1 t

/-- The third missing sync: the link enters HOLDOVER, and the position is its first period (R173). LINK is set before
the lane word of that period is taken (log entry 41). -/
def holdoverEntry (s : State) : State := silentFrame (changeLink Lif.toHoldover (abandon s))

/-- A missing sync in LOCKED (R171, R173). -/
def missedSync (s : State) : State :=
  if 2 ≤ s.lif.misses then holdoverEntry s
  else
    let out := laneOut (countPosition s)
    let t := beforeFrame out.2
    concealedFrame (t.lif.misses + 1) out.1 t

/-- An own period of HOLDOVER (R174). -/
def ownPeriod (s : State) : State := silentFrame (setLif (fun l => { l with periods := l.periods + 1 }) s)

/-- The link record at the return to LOCKED from HOLDOVER, at whose position the rate watch starts a new span (R174). -/
def Lif.toLocked (l : Lif) : Lif := { l with state := .locked, expected := none, misses := 0, periods := 0, span := 0 }

/-- The 32nd period of HOLDOVER has ended (R175). -/
def holdoverExpiryDue (s : State) : Bool := s.lif.state = .holdover && 32 ≤ s.lif.periods

/-! ### Idle frames (R176) -/

/-- An idle outbound frame (R176). -/
def idleOut (s : State) : State := sendFrame (s.lif.outNumber + 1) silence 0 s

end Sys2Proof.Machine
end

