-- ==== Sys2Proof/Machine/Events.lean ====
section
/-! DEFINITION. The part's own events: when each falls due, what taking it does, and the order in which the events that
have fallen due are taken before anything from outside is (log entries 10 to 12). -/

namespace Sys2Proof.Machine

/-- The events the part brings about by itself, one for each row of the table that nothing from outside commands. -/
inductive Event where
  | tunerSilence (channel : Fin 4)
  | rampEnd (slot : Fin 8)
  | beat
  | subdivision
  | loadComplete (chain : Fin 4) (ctx : Fin 2)
  | dipHalfway (chain : Fin 4)
  | fadeEnd (chain : Fin 4)
  | tailEnd (chain : Fin 4) (ctx : Fin 2)
  | spillLimit (chain : Fin 4) (ctx : Fin 2)
  | cutComplete (chain : Fin 4) (ctx : Fin 2)
  | loadStart
  | pendingStart
  | holdoverExpiry
  | hold (line : Fin 8)
  | measurementStart
  | notice
  | parcelComplete
  | switch
  | evaluation
  | tempoReset
  deriving DecidableEq, Repr

/-- The event has fallen due. -/
def due (e : Event) (s : State) : Bool :=
  match e with
  | .tunerSilence c => silenceDue c s
  | .rampEnd i => rampEndDue i s
  | .beat => beatDue s
  | .subdivision => subdivisionDue s
  | .loadComplete c x => loadCompleteDue c x s
  | .dipHalfway c => dipHalfwayDue c s
  | .fadeEnd c => fadeEndDue c s
  | .tailEnd c x => tailEndDue c x s
  | .spillLimit c x => spillLimitDue c x s
  | .cutComplete c x => cutCompleteDue c x s
  | .loadStart => loadDue s
  | .pendingStart => pendingStartDue s
  | .holdoverExpiry => holdoverExpiryDue s
  | .hold i => holdDue i s
  | .measurementStart => measurementStartDue s
  | .notice => noticeDue s
  | .parcelComplete => parcelCompleteDue s
  | .switch => s.lif.state.processing && switchDue s
  | .evaluation => s.lif.state.processing && s.bgv.evaluate
  | .tempoReset => s.lif.state.processing && s.tfu.resetFlag

/-- The event is taken. -/
def take (e : Event) (s : State) : State :=
  match e with
  | .tunerSilence c => takeSilence c s
  | .rampEnd i => takeRampEnd i s
  | .beat => takeBeat s
  | .subdivision => takeSubdivision s
  | .loadComplete c x => takeLoadComplete c x s
  | .dipHalfway c => takeDipHalfway c s
  | .fadeEnd c => takeFadeEnd c s
  | .tailEnd c x => takeTailEnd c x s
  | .spillLimit c x => takeSpillLimit c x s
  | .cutComplete c x => takeCutComplete c x s
  | .loadStart => takeLoadStart s
  | .pendingStart => takePendingStart s
  | .holdoverExpiry => loseLink s
  | .hold i => takeHold i s
  | .measurementStart => takeMeasurementStart s
  | .notice => takeNotice s
  | .parcelComplete => takeParcelComplete s
  | .switch => takeSwitch s
  | .evaluation => evaluateNow s
  | .tempoReset => takeTempoReset s

/-- The event is taken if it has fallen due. -/
def attempt (e : Event) (s : State) : State := if due e s then take e s else s

/-- Events taken in turn, each if it has fallen due. -/
def attemptAll (events : List Event) (s : State) : State := events.foldl (fun t e => attempt e t) s

/-- The transitions of the contexts and fades at the end of a frame (R59 to R61, R80, R85). -/
def contextEvents : List Event :=
  allCtxs.map (fun cx => Event.loadComplete cx.1 cx.2) ++ chains.map Event.dipHalfway ++ chains.map Event.fadeEnd ++
    allCtxs.map (fun cx => Event.tailEnd cx.1 cx.2) ++ allCtxs.map (fun cx => Event.spillLimit cx.1 cx.2) ++
    allCtxs.map (fun cx => Event.cutComplete cx.1 cx.2)

/-- The order in which events that have fallen due are taken: what a frame ends with, the context transitions, the load
start and the pending request that they let start (R78, R85), the end of HOLDOVER, what a tick ends with, and then the
lane. -/
def settleOrder : List Event :=
  chains.map Event.tunerSilence ++ allLines.map Event.rampEnd ++ [.beat, .subdivision] ++ contextEvents ++
    [.loadStart, .pendingStart, .holdoverExpiry] ++ allLines.map Event.hold ++
    [.measurementStart, .notice, .parcelComplete, .notice]

/-- Every event that has fallen due is taken. -/
def settle (s : State) : State := attemptAll settleOrder s

/-- An event taken in its turn: the events that come before it in the order are taken first. -/
def inTurn (e : Event) (s : State) : State := attempt e (attemptAll (settleOrder.takeWhile (· ≠ e)) s)

/-- No event has fallen due. -/
def quiet (s : State) : Bool := settleOrder.all fun e => !due e s

end Sys2Proof.Machine
end

