-- ==== Sys2Proof/Machine/ParcelCommands.lean ====
section
/-! DEFINITION. The meanings of the parcel commands: a good parcel reaches dispatch, after every event that has fallen
due (R183, R188). Whether it then executes, waits in the hold or is discarded is `arriveParcel`'s; what its execution
does is `kindEffect`'s. -/

namespace Sys2Proof.Machine

/-- What every command of the part answers. -/
abbrev Result := Host.Outcome State Fault Refusal

/-- WRITE_CHAIN_INPUT (R3): a good parcel of its kind reaches dispatch. -/
def execWriteChainInput (tag : Word) (body : List Word) (s : State) : Result :=
  .next (arriveParcel { kind := Kind.code .writeChainInput, tag := tag, body := body } (settle s))

/-- SET_LIVE_PARAMETER (R24): a good parcel of its kind reaches dispatch. -/
def execSetLiveParameter (tag : Word) (body : List Word) (s : State) : Result :=
  .next (arriveParcel { kind := Kind.code .setLiveParameter, tag := tag, body := body } (settle s))

/-- SET_STAGE_BYPASS (R26): a good parcel of its kind reaches dispatch. -/
def execSetStageBypass (tag : Word) (body : List Word) (s : State) : Result :=
  .next (arriveParcel { kind := Kind.code .setStageBypass, tag := tag, body := body } (settle s))

/-- WRITE_CURVE_POINTS (R39): a good parcel of its kind reaches dispatch. -/
def execWriteCurvePoints (tag : Word) (body : List Word) (s : State) : Result :=
  .next (arriveParcel { kind := Kind.code .writeCurvePoints, tag := tag, body := body } (settle s))

/-- READ_CURVE_POINTS (R42): a good parcel of its kind reaches dispatch. -/
def execReadCurvePoints (tag : Word) (body : List Word) (s : State) : Result :=
  .next (arriveParcel { kind := Kind.code .readCurvePoints, tag := tag, body := body } (settle s))

/-- WRITE_CAB_TAPS (R41): a good parcel of its kind reaches dispatch. -/
def execWriteCabTaps (tag : Word) (body : List Word) (s : State) : Result :=
  .next (arriveParcel { kind := Kind.code .writeCabTaps, tag := tag, body := body } (settle s))

/-- READ_CAB_TAPS (R42): a good parcel of its kind reaches dispatch. -/
def execReadCabTaps (tag : Word) (body : List Word) (s : State) : Result :=
  .next (arriveParcel { kind := Kind.code .readCabTaps, tag := tag, body := body } (settle s))

/-- READ_POOL (R62): a good parcel of its kind reaches dispatch. -/
def execReadPool (tag : Word) (body : List Word) (s : State) : Result :=
  .next (arriveParcel { kind := Kind.code .readPool, tag := tag, body := body } (settle s))

/-- WRITE_SCENE_HEADER (R64): a good parcel of its kind reaches dispatch. -/
def execWriteSceneHeader (tag : Word) (body : List Word) (s : State) : Result :=
  .next (arriveParcel { kind := Kind.code .writeSceneHeader, tag := tag, body := body } (settle s))

/-- WRITE_SECTION (R65): a good parcel of its kind reaches dispatch. -/
def execWriteSection (tag : Word) (body : List Word) (s : State) : Result :=
  .next (arriveParcel { kind := Kind.code .writeSection, tag := tag, body := body } (settle s))

/-- WRITE_STAGES (R66): a good parcel of its kind reaches dispatch. -/
def execWriteStages (tag : Word) (body : List Word) (s : State) : Result :=
  .next (arriveParcel { kind := Kind.code .writeStages, tag := tag, body := body } (settle s))

/-- ERASE_SCENE (R67): a good parcel of its kind reaches dispatch. -/
def execEraseScene (tag : Word) (body : List Word) (s : State) : Result :=
  .next (arriveParcel { kind := Kind.code .eraseScene, tag := tag, body := body } (settle s))

/-- READ_SCENE (R68): a good parcel of its kind reaches dispatch. -/
def execReadScene (tag : Word) (body : List Word) (s : State) : Result :=
  .next (arriveParcel { kind := Kind.code .readScene, tag := tag, body := body } (settle s))

/-- SELECT (R72): a good parcel of its kind reaches dispatch. -/
def execSelect (tag : Word) (body : List Word) (s : State) : Result :=
  .next (arriveParcel { kind := Kind.code .select, tag := tag, body := body } (settle s))

/-- CALL (R72): a good parcel of its kind reaches dispatch. -/
def execCall (tag : Word) (body : List Word) (s : State) : Result :=
  .next (arriveParcel { kind := Kind.code .call, tag := tag, body := body } (settle s))

/-- RETURN (R72): a good parcel of its kind reaches dispatch. -/
def execReturn (tag : Word) (body : List Word) (s : State) : Result :=
  .next (arriveParcel { kind := Kind.code .ret, tag := tag, body := body } (settle s))

/-- READ_CONTEXT_STATUS (R93): a good parcel of its kind reaches dispatch. -/
def execReadContextStatus (tag : Word) (body : List Word) (s : State) : Result :=
  .next (arriveParcel { kind := Kind.code .readContextStatus, tag := tag, body := body } (settle s))

/-- SET_TEMPO (R99): a good parcel of its kind reaches dispatch. -/
def execSetTempo (tag : Word) (body : List Word) (s : State) : Result :=
  .next (arriveParcel { kind := Kind.code .setTempo, tag := tag, body := body } (settle s))

/-- TEMPO_RESET (R102): a good parcel of its kind reaches dispatch. -/
def execTempoReset (tag : Word) (body : List Word) (s : State) : Result :=
  .next (arriveParcel { kind := Kind.code .tempoReset, tag := tag, body := body } (settle s))

/-- TAP (R105): a good parcel of its kind reaches dispatch. -/
def execTap (tag : Word) (body : List Word) (s : State) : Result :=
  .next (arriveParcel { kind := Kind.code .tap, tag := tag, body := body } (settle s))

/-- WRITE_FOOTSWITCH_LINE (R110): a good parcel of its kind reaches dispatch. -/
def execWriteFootswitchLine (tag : Word) (body : List Word) (s : State) : Result :=
  .next (arriveParcel { kind := Kind.code .writeFootswitchLine, tag := tag, body := body } (settle s))

/-- READ_FOOTSWITCH_LOG (R113): a good parcel of its kind reaches dispatch. -/
def execReadFootswitchLog (tag : Word) (body : List Word) (s : State) : Result :=
  .next (arriveParcel { kind := Kind.code .readFootswitchLog, tag := tag, body := body } (settle s))

/-- WRITE_TUNER_CHANNEL (R116): a good parcel of its kind reaches dispatch. -/
def execWriteTunerChannel (tag : Word) (body : List Word) (s : State) : Result :=
  .next (arriveParcel { kind := Kind.code .writeTunerChannel, tag := tag, body := body } (settle s))

/-- SET_TUNER_ENGAGE (R117): a good parcel of its kind reaches dispatch. -/
def execSetTunerEngage (tag : Word) (body : List Word) (s : State) : Result :=
  .next (arriveParcel { kind := Kind.code .setTunerEngage, tag := tag, body := body } (settle s))

/-- SET_TUNER_REFERENCE (R120): a good parcel of its kind reaches dispatch. -/
def execSetTunerReference (tag : Word) (body : List Word) (s : State) : Result :=
  .next (arriveParcel { kind := Kind.code .setTunerReference, tag := tag, body := body } (settle s))

/-- WRITE_ROUTE (R133): a good parcel of its kind reaches dispatch. -/
def execWriteRoute (tag : Word) (body : List Word) (s : State) : Result :=
  .next (arriveParcel { kind := Kind.code .writeRoute, tag := tag, body := body } (settle s))

/-- READ_ROUTES (R145): a good parcel of its kind reaches dispatch. -/
def execReadRoutes (tag : Word) (body : List Word) (s : State) : Result :=
  .next (arriveParcel { kind := Kind.code .readRoutes, tag := tag, body := body } (settle s))

/-- SET_PANIC (R141): a good parcel of its kind reaches dispatch. -/
def execSetPanic (tag : Word) (body : List Word) (s : State) : Result :=
  .next (arriveParcel { kind := Kind.code .setPanic, tag := tag, body := body } (settle s))

/-- SHOW_LOCK_ON (R146): a good parcel of its kind reaches dispatch. -/
def execShowLockOn (tag : Word) (body : List Word) (s : State) : Result :=
  .next (arriveParcel { kind := Kind.code .showLockOn, tag := tag, body := body } (settle s))

/-- SHOW_LOCK_OFF (R147): a good parcel of its kind reaches dispatch. -/
def execShowLockOff (tag : Word) (body : List Word) (s : State) : Result :=
  .next (arriveParcel { kind := Kind.code .showLockOff, tag := tag, body := body } (settle s))

/-- PERMIT (R148): a good parcel of its kind reaches dispatch. -/
def execPermit (tag : Word) (body : List Word) (s : State) : Result :=
  .next (arriveParcel { kind := Kind.code .permit, tag := tag, body := body } (settle s))

/-- FORCE_GUARD_ON (R165): a good parcel of its kind reaches dispatch. -/
def execForceGuardOn (tag : Word) (body : List Word) (s : State) : Result :=
  .next (arriveParcel { kind := Kind.code .forceGuardOn, tag := tag, body := body } (settle s))

/-- FORCE_GUARD_OFF (R165): a good parcel of its kind reaches dispatch. -/
def execForceGuardOff (tag : Word) (body : List Word) (s : State) : Result :=
  .next (arriveParcel { kind := Kind.code .forceGuardOff, tag := tag, body := body } (settle s))

/-- SUPPLY_CHECK (R163): a good parcel of its kind reaches dispatch. -/
def execSupplyCheck (tag : Word) (body : List Word) (s : State) : Result :=
  .next (arriveParcel { kind := Kind.code .supplyCheck, tag := tag, body := body } (settle s))

/-- WRITE_LINK_FORMAT (R178): a good parcel of its kind reaches dispatch. -/
def execWriteLinkFormat (tag : Word) (body : List Word) (s : State) : Result :=
  .next (arriveParcel { kind := Kind.code .writeLinkFormat, tag := tag, body := body } (settle s))

/-- READ_MAILBOXES (R190): a good parcel of its kind reaches dispatch. -/
def execReadMailboxes (tag : Word) (body : List Word) (s : State) : Result :=
  .next (arriveParcel { kind := Kind.code .readMailboxes, tag := tag, body := body } (settle s))

/-- READ_NOTICES (R193): a good parcel of its kind reaches dispatch. -/
def execReadNotices (tag : Word) (body : List Word) (s : State) : Result :=
  .next (arriveParcel { kind := Kind.code .readNotices, tag := tag, body := body } (settle s))

/-- WRITE_NOTICE_MASK (R193): a good parcel of its kind reaches dispatch. -/
def execWriteNoticeMask (tag : Word) (body : List Word) (s : State) : Result :=
  .next (arriveParcel { kind := Kind.code .writeNoticeMask, tag := tag, body := body } (settle s))

/-- READ_COUNTERS (R195): a good parcel of its kind reaches dispatch. -/
def execReadCounters (tag : Word) (body : List Word) (s : State) : Result :=
  .next (arriveParcel { kind := Kind.code .readCounters, tag := tag, body := body } (settle s))

/-- IDENTIFY (R196): a good parcel of its kind reaches dispatch. -/
def execIdentify (tag : Word) (body : List Word) (s : State) : Result :=
  .next (arriveParcel { kind := Kind.code .identify, tag := tag, body := body } (settle s))

/-- RESTART (R197): a good parcel of its kind reaches dispatch. -/
def execRestart (tag : Word) (body : List Word) (s : State) : Result :=
  .next (arriveParcel { kind := Kind.code .restart, tag := tag, body := body } (settle s))

/-- UNKNOWN_KIND (R186): a good parcel of a kind the part does not accept reaches dispatch. -/
def execUnknownKind (kind : BitVec 6) (tag : Word) (body : List Word) (s : State) : Result :=
  .next (arriveParcel { kind := kind, tag := tag, body := body } (settle s))

end Sys2Proof.Machine
end

