-- ==== Sys2Proof/Machine/EventCommands.lean ====
section
/-! DEFINITION. The meanings of the rows for the part's own events. Each takes its event if it has fallen due; one that
has not has no effect of its own (log entry 10). The load start and the pending request's start come after the context
transitions of their frame (R78, R85), a good parcel, a hold and the end of HOLDOVER after every event that comes before
them, and the switch, the evaluation and the tempo reset after every event taken before them at the frame: the evaluation
and the reset after each switch, and the reset after the evaluation (R81, R154, R102). -/

namespace Sys2Proof.Machine

/-- A good parcel has arrived complete (R181). -/
def goodParcelArrived (s : State) : Bool := s.lct.arrived.any fun words => (readParcel words).isSome

/-- PARCEL_COMPLETE (R181). A good parcel reaches dispatch in its turn, after the events of the frame that completed it,
as a parcel row does (R73, R85, R137, R188). -/
def execParcelComplete (s : State) : Result :=
  .next (if goodParcelArrived s then inTurn .parcelComplete s else attempt .parcelComplete s)

/-- NOTICE (R192). -/
def execNotice (s : State) : Result := .next (attempt .notice s)

/-- HOLDOVER_EXPIRY (R175), after the events at the end of the 32nd period's frame. -/
def execHoldoverExpiry (s : State) : Result := .next (inTurn .holdoverExpiry s)

/-- The switches before a frame: the one that is due, the pending request that it lets start, and that request's own, if it
loads no context (R73, R81, R82, log entry 33). -/
def switches (s : State) : State := attempt .switch (attempt .pendingStart (attempt .switch (settle s)))

/-- TEMPO_RESET_TAKEN (R102): the switches and the evaluation before the frame come first. -/
def execTempoResetTaken (s : State) : Result := .next (attempt .tempoReset (attempt .evaluation (switches s)))

/-- BEAT (R96). -/
def execBeat (s : State) : Result := .next (attempt .beat s)

/-- SUBDIVISION (R97). -/
def execSubdivision (s : State) : Result := .next (attempt .subdivision s)

/-- GOVERNOR_EVALUATION (R154, R155): the switches before the frame come first. -/
def execGovernorEvaluation (s : State) : Result := .next (attempt .evaluation (switches s))

/-- LOAD_START (R79). -/
def execLoadStart (s : State) : Result := .next (attempt .loadStart (attemptAll contextEvents s))

/-- LOAD_COMPLETE (R80). -/
def execLoadComplete (chain : Fin 4) (ctx : Fin 2) (s : State) : Result := .next (attempt (.loadComplete chain ctx) s)

/-- SWITCH (R81). -/
def execSwitch (s : State) : Result := .next (attempt .switch (settle s))

/-- DIP_HALFWAY (R159). -/
def execDipHalfway (chain : Fin 4) (s : State) : Result := .next (attempt (.dipHalfway chain) s)

/-- FADE_END (R85). -/
def execFadeEnd (chain : Fin 4) (s : State) : Result := .next (attempt (.fadeEnd chain) s)

/-- PENDING_REQUEST_START (R73). -/
def execPendingRequestStart (s : State) : Result := .next (attempt .pendingStart (attemptAll contextEvents s))

/-- TAIL_END (R59). -/
def execTailEnd (chain : Fin 4) (ctx : Fin 2) (s : State) : Result := .next (attempt (.tailEnd chain ctx) s)

/-- SPILL_LIMIT (R60). -/
def execSpillLimit (chain : Fin 4) (ctx : Fin 2) (s : State) : Result := .next (attempt (.spillLimit chain ctx) s)

/-- CUT_COMPLETE (R61). -/
def execCutComplete (chain : Fin 4) (ctx : Fin 2) (s : State) : Result := .next (attempt (.cutComplete chain ctx) s)

/-- RAMP_END (R137). -/
def execRampEnd (slot : Fin 8) (s : State) : Result := .next (attempt (.rampEnd slot) s)

/-- TUNER_SILENCE (R126). -/
def execTunerSilence (channel : Fin 4) (s : State) : Result := .next (attempt (.tunerSilence channel) s)

/-- HOLD (R109), whose action finds the events of the last frame taken. -/
def execHold (line : Fin 8) (s : State) : Result := .next (inTurn (.hold line) s)

/-- MEASUREMENT_START (R163). -/
def execMeasurementStart (s : State) : Result := .next (attempt .measurementStart s)

end Sys2Proof.Machine
end

