-- ==== Sys2Proof/Machine/LinkCommands.lean ====
section
/-! DEFINITION. The meanings of what reaches the part from outside its lane: power, the link, the millisecond tick and
the converter. Each is taken after every event that has fallen due; one that the link state or the running measurement
does not admit has no effect of its own (log entry 10). -/

namespace Sys2Proof.Machine

/-- POWER_ON (R166): every piece of state takes its power-on value. -/
def execPowerOn (s : State) : Result := .next { State.reset with pending := s.pending }

/-- A change of the settled state in one link state; elsewhere there is none. -/
def inLink (state : LinkState) (f : State → State) (s : State) : State :=
  if (settle s).lif.state = state then f (settle s) else settle s

/-- ENTER_MEASURE (R168): in SEARCH, sync at two successive positions. -/
def execEnterMeasure (s : State) : Result := .next (inLink .search enterMeasure s)

/-- MEASURE_SYNC_MISSING (R169): in MEASURE, a missing sync returns the link to SEARCH; it is no link loss. -/
def execMeasureSyncMissing (s : State) : Result := .next (inLink .measure enterSearch s)

/-- MEASUREMENT_COMPLETE (R169): in MEASURE, the count of a complete measurement. -/
def execMeasurementComplete (count : Nat) (s : State) : Result := .next (inLink .measure (measured count) s)

/-- FRAME_RECEIVED (R170): in LOCKED, a frame at an expected position that shows sync. -/
def execFrameReceived (frame : Frame) (s : State) : Result := .next (inLink .locked (fun t => lockedFrame frame (countPosition t)) s)

/-- MISSING_SYNC (R173): in LOCKED, an expected position without sync. -/
def execMissingSync (s : State) : Result := .next (inLink .locked missedSync s)

/-- ENTER_HOLDOVER (R173): in LOCKED, the third consecutive expected position without sync. -/
def execEnterHoldover (s : State) : Result :=
  .next (inLink .locked (fun t => if 2 ≤ t.lif.misses then holdoverEntry t else t) s)

/-- HOLDOVER_PERIOD (R174): in HOLDOVER, an own period. -/
def execHoldoverPeriod (s : State) : Result := .next (inLink .holdover ownPeriod s)

/-- HOLDOVER_RETURN (R174): in HOLDOVER, sync at two successive positions, with the frame at the second. -/
def execHoldoverReturn (frame : Frame) (s : State) : Result :=
  .next (inLink .holdover (fun t => lockedFrame frame (changeLink Lif.toLocked t)) s)

/-- RATE_DEPARTURE (R170): in LOCKED, at the end of a span of 64 positions, a count outside the window of the locked
rate. -/
def execRateDeparture (count : Nat) (s : State) : Result := .next (inLink .locked (watchRate count) s)

/-- IDLE_FRAME (R176): in SEARCH and MEASURE, an idle outbound frame. -/
def execIdleFrame (s : State) : Result :=
  .next (if (settle s).lif.state.processing then settle s else idleOut (settle s))

/-- MS_TICK (R107): the millisecond tick, at which every line is debounced, each enabled line takes its transition and
the schedule of the supply measurement counts (R163). -/
def execMsTick (pins : BitVec 8) (s : State) : Result := .next (footswitchTick pins (supplyTick (settle s)))

/-- SUPPLY_READING (R163): the running measurement completes with its two conversions. -/
def execSupplyReading (c1 c2 : Int) (s : State) : Result :=
  .next (match (settle s).bgv.running with
    | some cause => takeReading cause (conversion c1) (conversion c2) (settle s)
    | none => settle s)

end Sys2Proof.Machine
end

