-- ==== Sys2Proof/Machine/Dispatch.lean ====
section
/-! DEFINITION. The dispatch of a command to its meaning, one arm for each constructor. -/

namespace Sys2Proof.Machine

def exec (i : Instr) (s : State) : Host.Outcome State Fault Refusal :=
  match i with
  | .powerOn => Sys2Proof.Machine.execPowerOn s
  | .writeChainInput tag body => Sys2Proof.Machine.execWriteChainInput tag body s
  | .setLiveParameter tag body => Sys2Proof.Machine.execSetLiveParameter tag body s
  | .setStageBypass tag body => Sys2Proof.Machine.execSetStageBypass tag body s
  | .writeCurvePoints tag body => Sys2Proof.Machine.execWriteCurvePoints tag body s
  | .readCurvePoints tag body => Sys2Proof.Machine.execReadCurvePoints tag body s
  | .writeCabTaps tag body => Sys2Proof.Machine.execWriteCabTaps tag body s
  | .readCabTaps tag body => Sys2Proof.Machine.execReadCabTaps tag body s
  | .readPool tag body => Sys2Proof.Machine.execReadPool tag body s
  | .writeSceneHeader tag body => Sys2Proof.Machine.execWriteSceneHeader tag body s
  | .writeSection tag body => Sys2Proof.Machine.execWriteSection tag body s
  | .writeStages tag body => Sys2Proof.Machine.execWriteStages tag body s
  | .eraseScene tag body => Sys2Proof.Machine.execEraseScene tag body s
  | .readScene tag body => Sys2Proof.Machine.execReadScene tag body s
  | .select tag body => Sys2Proof.Machine.execSelect tag body s
  | .call tag body => Sys2Proof.Machine.execCall tag body s
  | .ret tag body => Sys2Proof.Machine.execReturn tag body s
  | .readContextStatus tag body => Sys2Proof.Machine.execReadContextStatus tag body s
  | .setTempo tag body => Sys2Proof.Machine.execSetTempo tag body s
  | .tempoReset tag body => Sys2Proof.Machine.execTempoReset tag body s
  | .tap tag body => Sys2Proof.Machine.execTap tag body s
  | .writeFootswitchLine tag body => Sys2Proof.Machine.execWriteFootswitchLine tag body s
  | .readFootswitchLog tag body => Sys2Proof.Machine.execReadFootswitchLog tag body s
  | .writeTunerChannel tag body => Sys2Proof.Machine.execWriteTunerChannel tag body s
  | .setTunerEngage tag body => Sys2Proof.Machine.execSetTunerEngage tag body s
  | .setTunerReference tag body => Sys2Proof.Machine.execSetTunerReference tag body s
  | .writeRoute tag body => Sys2Proof.Machine.execWriteRoute tag body s
  | .readRoutes tag body => Sys2Proof.Machine.execReadRoutes tag body s
  | .setPanic tag body => Sys2Proof.Machine.execSetPanic tag body s
  | .showLockOn tag body => Sys2Proof.Machine.execShowLockOn tag body s
  | .showLockOff tag body => Sys2Proof.Machine.execShowLockOff tag body s
  | .permit tag body => Sys2Proof.Machine.execPermit tag body s
  | .forceGuardOn tag body => Sys2Proof.Machine.execForceGuardOn tag body s
  | .forceGuardOff tag body => Sys2Proof.Machine.execForceGuardOff tag body s
  | .supplyCheck tag body => Sys2Proof.Machine.execSupplyCheck tag body s
  | .writeLinkFormat tag body => Sys2Proof.Machine.execWriteLinkFormat tag body s
  | .readMailboxes tag body => Sys2Proof.Machine.execReadMailboxes tag body s
  | .readNotices tag body => Sys2Proof.Machine.execReadNotices tag body s
  | .writeNoticeMask tag body => Sys2Proof.Machine.execWriteNoticeMask tag body s
  | .readCounters tag body => Sys2Proof.Machine.execReadCounters tag body s
  | .identify tag body => Sys2Proof.Machine.execIdentify tag body s
  | .restart tag body => Sys2Proof.Machine.execRestart tag body s
  | .unknownKind kind tag body => Sys2Proof.Machine.execUnknownKind kind tag body s
  | .parcelComplete => Sys2Proof.Machine.execParcelComplete s
  | .notice => Sys2Proof.Machine.execNotice s
  | .enterMeasure => Sys2Proof.Machine.execEnterMeasure s
  | .measureSyncMissing => Sys2Proof.Machine.execMeasureSyncMissing s
  | .measurementComplete count => Sys2Proof.Machine.execMeasurementComplete count s
  | .frameReceived frame => Sys2Proof.Machine.execFrameReceived frame s
  | .missingSync => Sys2Proof.Machine.execMissingSync s
  | .enterHoldover => Sys2Proof.Machine.execEnterHoldover s
  | .holdoverPeriod => Sys2Proof.Machine.execHoldoverPeriod s
  | .holdoverReturn frame => Sys2Proof.Machine.execHoldoverReturn frame s
  | .holdoverExpiry => Sys2Proof.Machine.execHoldoverExpiry s
  | .rateDeparture count => Sys2Proof.Machine.execRateDeparture count s
  | .idleFrame => Sys2Proof.Machine.execIdleFrame s
  | .tempoResetTaken => Sys2Proof.Machine.execTempoResetTaken s
  | .beat => Sys2Proof.Machine.execBeat s
  | .subdivision => Sys2Proof.Machine.execSubdivision s
  | .governorEvaluation => Sys2Proof.Machine.execGovernorEvaluation s
  | .loadStart => Sys2Proof.Machine.execLoadStart s
  | .loadComplete chain ctx => Sys2Proof.Machine.execLoadComplete chain ctx s
  | .switch => Sys2Proof.Machine.execSwitch s
  | .dipHalfway chain => Sys2Proof.Machine.execDipHalfway chain s
  | .fadeEnd chain => Sys2Proof.Machine.execFadeEnd chain s
  | .pendingRequestStart => Sys2Proof.Machine.execPendingRequestStart s
  | .tailEnd chain ctx => Sys2Proof.Machine.execTailEnd chain ctx s
  | .spillLimit chain ctx => Sys2Proof.Machine.execSpillLimit chain ctx s
  | .cutComplete chain ctx => Sys2Proof.Machine.execCutComplete chain ctx s
  | .rampEnd slot => Sys2Proof.Machine.execRampEnd slot s
  | .tunerSilence channel => Sys2Proof.Machine.execTunerSilence channel s
  | .msTick pins => Sys2Proof.Machine.execMsTick pins s
  | .hold line => Sys2Proof.Machine.execHold line s
  | .measurementStart => Sys2Proof.Machine.execMeasurementStart s
  | .supplyReading c1 c2 => Sys2Proof.Machine.execSupplyReading c1 c2 s

end Sys2Proof.Machine
end

