-- ==== Sys2Proof/Machine/Line.lean ====
section
/-! DEFINITION. The frame on the line: the sync pattern, the bits of a frame in both directions, the finding of sync, the
hunt, and the commands that the bits of the inbound line bring about in each link state (R167 to R170, R173, R174, R176,
R199). A line is the list of its bits, the first received first, and a position is a number of bits from its start. The
moment at which a bit arrives is outside the model (log entry 18). -/

namespace Sys2Proof.Machine

/-! ### The frame on the line (R167, R199, Table 11-1) -/

/-- The sync pattern (R199). -/
def syncPattern : BitVec 16 := 0xE5B0

/-- The frame length in link bits, the same at every rate (R167, R199). -/
def bitsPerFrame : Nat := 304

/-- The bits of a frame on the line, every field most significant bit first: the sync pattern, the frame number, the
slot words, the lane word and the check byte (R167, Table 11-1). -/
def frameBits (f : Frame) : List Bool :=
  wordBits syncPattern ++ checkedBits f.number f.slots f.lane ++ wordBits f.check

/-- The word that bits spell, the most significant first. -/
def bitsWord (n : Nat) (bits : List Bool) : BitVec n :=
  BitVec.ofNat n (bits.foldl (fun value bit => 2 * value + bit.toNat) 0)

/-- The field of n bits that begins at a position of a line. -/
def fieldAt (n : Nat) (line : List Bool) (p : Nat) : BitVec n := bitsWord n ((line.drop p).take n)

/-- LIF finds sync at a position when the 16 bits there equal the sync pattern (R167, R199). -/
def syncAt (line : List Bool) (p : Nat) : Bool := (line.drop p).take 16 = wordBits syncPattern

/-- The frame whose sync pattern begins at a position (Table 11-1). -/
def frameAt (line : List Bool) (p : Nat) : Frame :=
  { number := fieldAt 8 line (p + 16)
    slots := tab fun i => fieldAt 32 line (p + 24 + 32 * i.val)
    lane := fieldAt 16 line (p + 280)
    check := fieldAt 8 line (p + 296) }

/-! ### The hunt (R168, R174) -/

/-- The hunt at every bit position: sync found at a position and at the successive one, one frame length later, ends it
at the second of them; a find that is not followed so is dropped, and the hunt goes on from the bit after it. -/
def hunt : List Bool → Option Nat
  | [] => none
  | bit :: rest =>
    if syncAt (bit :: rest) 0 && syncAt (bit :: rest) bitsPerFrame then some bitsPerFrame
    else (hunt rest).map (· + 1)

/-- The hunt from a position on: the second of the two positions at which it ends. -/
def huntFrom (line : List Bool) (p : Nat) : Option Nat := (hunt (line.drop p)).map (· + p)

/-! ### What the inbound line brings about (R168 to R174) -/

/-- In SEARCH: sync at two successive positions (R168). -/
def searchCommand (line : List Bool) (p : Nat) : Option Instr := (huntFrom line p).map fun _ => .enterMeasure

/-- The k-th expected position after a position (R167). -/
def expectedPosition (p k : Nat) : Nat := p + bitsPerFrame * k

/-- In MEASURE: the 64 expected positions after the start of the measurement all show sync, and the count of reference
cycles up to the last of them is complete; or one of them does not (R169). -/
def measureCommand (line : List Bool) (start count : Nat) : Instr :=
  if (List.range 64).all fun k => syncAt line (expectedPosition start (k + 1)) then .measurementComplete count
  else .measureSyncMissing

/-- In LOCKED: the expected position shows sync, and its frame is received, or it does not (R170, R173). -/
def lockedCommand (line : List Bool) (p : Nat) : Instr :=
  if syncAt line p then .frameReceived (frameAt line p) else .missingSync

/-- In LOCKED, after the command of an expected position: the position has ended a span of the rate watch, and its count of
reference cycles is complete (R170). -/
def watchCommand (l : Lif) (count : Nat) : Option Instr := if spanEnded l then some (.rateDeparture count) else none

/-- In HOLDOVER: the hunt from the position at which it was entered finds sync at two successive positions, both before
the end of the 32nd period, and the frame at the second is the first of LOCKED (R174). -/
def holdoverCommand (line : List Bool) (entry periodsEnd : Nat) : Option Instr :=
  match huntFrom line entry with
  | some p => if p < periodsEnd then some (.holdoverReturn (frameAt line p)) else none
  | none => none

/-! ### The outbound line (R174, R176) -/

/-- The bits of the last outbound frame sent (R176). -/
def outboundBits (s : State) : Option (List Bool) := s.lif.sent.map frameBits

/-- The beginning of period j of a run, in reference cycles after the run's start: floor(j·M/64), or j times 512 cycles
while M is none (R174, R176). -/
def periodStart (count : Option Nat) (j : Nat) : Nat := j * count.getD 32768 / 64

end Sys2Proof.Machine
end

