-- ==== Sys2Proof/Safety.lean ====
section
/-! DEFINITION. What a safe state of the part is: the bounds and laws that the manual states of every moment; and the
terms in which statements about commands are made: when a parcel executes at once, and what a reply leaves. -/

namespace Sys2Proof.Machine

/-- The lists that the manual bounds keep their bounds: the return stack (R88), the tap interval list (R103), the
footswitch log (R112), the inbound hold (R184), and the stages of a context (R5, R63). -/
def Bounded (s : State) : Prop :=
  s.scc.stack.length ≤ 6 ∧ s.tfu.taps.length ≤ 4 ∧ s.tfu.log.length ≤ 16 ∧ s.lct.hold.length ≤ 2 ∧
    ∀ (c : Fin 4) (x : Fin 2), (s.scc.ctx c x).stages.length ≤ 12

/-- The samples of the pool stand in their canonical form (log entry 5). -/
def MemoryOk (s : State) : Prop := Memory.wf s.dpl.mem = true

/-- The outbound queue holds at most 256 words (R185). -/
def QueueOk (s : State) : Prop := queueLength s.lct.queue ≤ Config.queueWords

/-- The tempo period lies in the range of the rate in force (R95). -/
def TempoOk (s : State) : Prop := s.hz / 4 ≤ s.tfu.period ∧ s.tfu.period ≤ 2 * s.hz

/-- The blocks held by the contexts of the part, context by context. -/
def heldList (ctxs : Vector (Vector Ctx 2) 4) : List Nat := allCtxs.flatMap fun cx => ctxs[cx.1][cx.2].blocks

/-- An IDLE context holds no blocks (R69). -/
def IdleEmpty (s : State) : Prop :=
  ∀ (c : Fin 4) (x : Fin 2), (s.scc.ctx c x).state = .idle → (s.scc.ctx c x).blocks = []

/-- The law of the pool (R54): every block is on the free list or in exactly one block list, and the free list stands in
ascending order. -/
def PoolOk (s : State) : Prop :=
  IdleEmpty s ∧ (s.dpl.free ++ heldList s.scc.ctxs).Perm (List.range Config.poolBlocks) ∧ s.dpl.free.Pairwise (· < ·)

/-- A safe state. -/
def Safe (s : State) : Prop := Bounded s ∧ MemoryOk s ∧ QueueOk s ∧ TempoOk s ∧ PoolOk s

/-! ### The terms of statements about parcels -/

/-- Nothing waits before a parcel of kind k: no event has fallen due, the hold is empty and the queue has room for the
kind's largest reply (R183). -/
def Clear (k : Kind) (s : State) : Prop :=
  quiet s = true ∧ s.lct.hold = [] ∧ queueLength s.lct.queue + kindLargest k ≤ Config.queueWords

/-- The guard admits a kind: it is not guarded, the show lock is off, or a permit is held (R150). -/
def Admitted (k : Kind) (s : State) : Prop :=
  kindGuarded k = true → s.lct.showLocked = true → s.lct.permit = true

/-- The state with the reply to a parcel queued: the kind and tag of the command, the code, the data (R187). -/
def replied (k : Kind) (tag : Word) (code : Code) (data : List Word) (s : State) : State :=
  enqueue (parcelWords (Kind.code k) tag (word code.value :: data)) s

/-- A sample value (00_scope). -/
def IsSample (z : Int) : Prop := sampleMin ≤ z ∧ z ≤ sampleMax

/-! ### The terms of statements about frames -/

/-- Nothing but the frame itself is taken at the next frame: no switch, no pending request, no evaluation and no tempo
reset is to come before it. -/
def Still (s : State) : Prop :=
  switchDue s = false ∧ pendingStartDue s = false ∧ s.bgv.evaluate = false ∧ s.tfu.resetFlag = false

/-- What comes before a frame up to its evaluation, each step taken if it is due: the switch, a pending request that it
lets start, that request's own switch, and the evaluation, as the rows SWITCH, PENDING_REQUEST_START and
GOVERNOR_EVALUATION take them (R73, R81, R154; log entries 16, 33 and 38). -/
def RowsBeforeReset (s d : State) : Prop :=
  ∃ a b c : State,
    (switchDue s = true → a = takeSwitch s) ∧ (switchDue s = false → a = s) ∧
    (pendingStartDue a = true → b = takePendingStart a) ∧ (pendingStartDue a = false → b = a) ∧
    (switchDue b = true → c = takeSwitch b) ∧ (switchDue b = false → c = b) ∧
    (c.bgv.evaluate = true → d = evaluateNow c) ∧ (c.bgv.evaluate = false → d = c)

/-- What comes before a frame is computed: all that, and then the tempo reset, if its flag is set, as the row
TEMPO_RESET_TAKEN takes it (R102). -/
def RowsBeforeFrame (s t : State) : Prop :=
  ∃ d : State, RowsBeforeReset s d ∧
    (d.tfu.resetFlag = true → t = takeTempoReset d) ∧ (d.tfu.resetFlag = false → t = d)

/-- The state on which the frame after the state u is computed: what the rows before it leave, which keep the link record
and the lane's assembler, and u itself where none is due. -/
def FrameStart (u w : State) : Prop :=
  RowsBeforeFrame u w ∧ (Still u → w = u) ∧ w.lif = u.lif ∧ w.lct.assembler = u.lct.assembler ∧
    w.lct.arrived = u.lct.arrived

/-- The outbound frame of a processed frame: its number, the results of the processed frame two before, its lane word, and
the check byte of all that (R176, R177). -/
def SentAfter (lane : Word) (s t : State) (number : BitVec 8) : Prop :=
  t.lif.outNumber = number ∧ t.lif.older = s.lif.newer ∧
    ∃ g : Frame, t.lif.sent = some g ∧ g.number = number ∧
      (∀ i : Fin 8, g.slots[i] = s.lif.outFormat.slotWord s.lif.older[i]) ∧ g.lane = lane ∧
      g.check = checkByte g.number g.slots g.lane

/-- The tuner's part of a processed frame: each measuring channel takes its chain input sample, its mailbox is written at a
completed window and at a change of state, and TUNER joins the pending set, behind a notice that is due, when a channel
has gone into or out of READY (R121, R128, R129, R192). -/
def TunerSampled (inputs : Vector Int 4) (s t : State) : Prop :=
  t.tun = { s.tun with channels := t.tun.channels } ∧
    (∀ c : Fin 4,
      let k := s.tun.channels[c]
      let r := sampleStep s.hz s.tun.reference k inputs[c]
      (measures k.mode s.tun.engaged = false →
        t.tun.channels[c] = k ∧ t.lct.boxes.tuner[c] = s.lct.boxes.tuner[c]) ∧
      (measures k.mode s.tun.engaged = true → t.tun.channels[c] = r.channel ∧
        ((r.window = true ∨ r.channel.state ≠ k.state) →
          t.lct.boxes.tuner[c] = ⟨⟨r.channel.state, r.channel.reading, s.tun.mute c⟩, true⟩) ∧
        (r.window = false → r.channel.state = k.state → t.lct.boxes.tuner[c] = s.lct.boxes.tuner[c]))) ∧
    ((∀ c : Fin 4, s.tun.channels[c].state = .ready ↔ t.tun.channels[c].state = .ready) →
      t.lct.queue = s.lct.queue ∧ t.lct.notices = s.lct.notices) ∧
    ((∃ c : Fin 4, ¬ (s.tun.channels[c].state = .ready ↔ t.tun.channels[c].state = .ready)) →
      t.lct.queue = (raise .tuner s).lct.queue ∧ t.lct.notices = (raise .tuner s).lct.notices)

/-- A processed frame on eight inbound samples: the chains, the tuner and the router have run, the meters and the beat
clock have moved on, every output is a sample value, and no stored table has changed (R4, R96, R121, R139, R140, R143). -/
def ProcessedFrom (s t : State) (inbound : Vector Int 8) : Prop :=
  t.chp.outputs = (chainsRun inbound s).outputs ∧ t.scc.ctxs = (chainsRun inbound s).ctxs ∧
    t.scc.fades = (chainsRun inbound s).fades ∧ t.dpl.mem = (chainsRun inbound s).mem ∧ t.dpl.free = s.dpl.free ∧
    TunerSampled (chainInputs s.chp.inputs inbound) s t ∧
    t.ort = (routerFrame inbound { s with chp := t.chp }).ort ∧
    t.lif.newer = (routerFrame inbound { s with chp := t.chp }).lif.newer ∧ (∀ i : Fin 8, IsSample t.lif.newer[i]) ∧
    (∀ i : Fin 8, t.lct.boxes.meters[i] = if s.lct.boxes.meters[i].record < t.lif.newer[i].natAbs
      then ⟨t.lif.newer[i].natAbs, true⟩ else s.lct.boxes.meters[i]) ∧
    t.tfu = { s.tfu with phase := s.tfu.phase + 1, frames := s.tfu.frames + 1 } ∧
    t.chp.inputs = s.chp.inputs ∧ t.chp.curves = s.chp.curves ∧ t.chp.cabs = s.chp.cabs ∧
    t.scc.scenes = s.scc.scenes ∧ t.scc.stack = s.scc.stack ∧ t.scc.live = s.scc.live ∧
    t.scc.waiting = s.scc.waiting ∧ t.scc.last = s.scc.last ∧
    t.ort.routes = s.ort.routes ∧ t.ort.panic = s.ort.panic ∧ t.bgv = s.bgv ∧
    t.lct.showLocked = s.lct.showLocked ∧ t.lct.permit = s.lct.permit ∧ t.lct.hold = s.lct.hold ∧
    t.lct.mask = s.lct.mask ∧ t.lct.boxes.tempo = s.lct.boxes.tempo ∧ t.lct.boxes.supply = s.lct.boxes.supply ∧
    t.lct.boxes.governor = s.lct.boxes.governor ∧ t.pending = s.pending

/-- A good frame, as the lane's part of it stands: it is processed on its own samples, sets the hold samples and the
expected number, counts a slip against an older expectation, and gives its lane word to the assembler (R170, R172, R176,
R180, R182). -/
def Received (lane : Word) (f : Frame) (s t : State) : Prop :=
  let slip : Prop := ∃ n, s.lif.expected = some n ∧ n ≠ f.number
  SentAfter lane s t (f.number + 2) ∧ ProcessedFrom s t (frameSamples s.lif.inFormat f) ∧
  t.lif = { s.lif with
    held := frameSamples s.lif.inFormat f, expected := some (f.number + 1), misses := 0, outNumber := f.number + 2
    sent := t.lif.sent, older := s.lif.newer, newer := t.lif.newer } ∧
  t.lct.counters = { s.lct.counters with slips := t.lct.counters.slips, noise := t.lct.counters.noise } ∧
  (slip → t.lct.counters.slips = min 65535 (s.lct.counters.slips + 1) ∧ t.lct.boxes.link =
    ⟨⟨s.lif.state, s.lif.rate, min 65535 (s.lct.counters.slips + 1), s.lct.counters.frameChecks⟩, true⟩) ∧
  (¬ slip → t.lct.counters.slips = s.lct.counters.slips ∧ t.lct.boxes.link = s.lct.boxes.link) ∧
  ((s.lct.assembler = .outside ∨ slip) → t.lct.arrived = s.lct.arrived ∧
    (f.lane = 0 → t.lct.assembler = .outside ∧ t.lct.counters.noise = s.lct.counters.noise) ∧
    (isLead f.lane = true → t.lct.assembler = .inside [f.lane] (leadLength f.lane + 2) ∧
      t.lct.counters.noise = s.lct.counters.noise) ∧
    (f.lane ≠ 0 → isLead f.lane = false → t.lct.assembler = .outside ∧
      t.lct.counters.noise = min 65535 (s.lct.counters.noise + 1))) ∧
  ∀ (words : List Word) (left : Nat), s.lct.assembler = .inside words left → ¬ slip →
    t.lct.counters.noise = s.lct.counters.noise ∧
    (left ≤ 1 → t.lct.assembler = .outside ∧ t.lct.arrived = some (words ++ [f.lane])) ∧
    (1 < left → t.lct.assembler = .inside (words ++ [f.lane]) (left - 1) ∧ t.lct.arrived = s.lct.arrived)

/-- A frame on silence in HOLDOVER, numbered on from the last outbound frame (R174, R176). -/
def Silent (lane : Word) (s t : State) : Prop :=
  SentAfter lane s t (s.lif.outNumber + 1) ∧ ProcessedFrom s t silence ∧
    t.lif = { s.lif with
      outNumber := s.lif.outNumber + 1, sent := t.lif.sent, older := s.lif.newer, newer := t.lif.newer } ∧
    t.lct.assembler = s.lct.assembler ∧ t.lct.arrived = s.lct.arrived ∧ t.lct.counters = s.lct.counters ∧
    t.lct.boxes.link = s.lct.boxes.link

/-- A concealed frame: an expected position without a good frame (R171, R176). The chains run on the hold samples, which
stand; no lane word comes in, and a parcel in assembly is lost. -/
def Concealed (lane : Word) (s t : State) : Prop :=
  SentAfter lane s t (match s.lif.expected with
    | some n => n + 2
    | none => s.lif.outNumber + 1) ∧
  ProcessedFrom s t s.lif.held ∧
    t.lif = { s.lif with
      expected := s.lif.expected.map (· + 1), misses := t.lif.misses, outNumber := t.lif.outNumber
      sent := t.lif.sent, older := s.lif.newer, newer := t.lif.newer } ∧
    t.lct.assembler = .outside ∧ t.lct.arrived = s.lct.arrived ∧
    t.lct.counters = { s.lct.counters with frameChecks := min 65535 (s.lct.counters.frameChecks + 1) } ∧
    t.lct.boxes.link =
      ⟨⟨s.lif.state, s.lif.rate, s.lct.counters.slips, min 65535 (s.lct.counters.frameChecks + 1)⟩, true⟩

/-! ### The terms of statements about the frame of a chain (R5, R19 to R23) -/

/-- A full-list context runs its stages in index order: stage 0 on the sample x, each later one on the output of the stage
before it, the last one's output y being the context's, which is panned; with no stage y is x (R5, R19). -/
def ContextRan (env : FrameInputs) (x : Int) (k : Ctx) (mem : List (Nat × Int)) (f : CtxFrame) : Prop :=
  ∃ (inputs : Nat → Int) (mems : Nat → List (Nat × Int)) (stages : List Stage),
    inputs 0 = x ∧ mems 0 = mem ∧ stages.length = k.stages.length ∧
    (∀ (i : Nat) (st : Stage), k.stages[i]? = some st →
      stages[i]? = some (runStage env st (inputs i) (mems i)).stage ∧
      inputs (i + 1) = (runStage env st (inputs i) (mems i)).out ∧
      mems (i + 1) = (runStage env st (inputs i) (mems i)).mem) ∧
    f = ⟨{ k with stages := stages }, some (panPair k.pan (inputs k.stages.length)), mems k.stages.length⟩

/-- A context in a frame of a chain that the governor has not bypassed: a FADING_OUT one runs, and so does a LIVE one that
is not held in the first half of a dip; a tail gives its tail (R57 to R61, TailsEndOrAreCut); the others run no stage and
give nothing, and a LOADING one counts its frame (Table 1-1, R80, R159). -/
def ContextStepped (env : FrameInputs) (fade : Fade) (x : Int) (k : Ctx) (mem : List (Nat × Int)) (f : CtxFrame) :
    Prop :=
  let held : Prop := (fade.kind = .dipCross ∨ fade.kind = .dipIn) ∧ fade.k < 32
  ((k.state = .fadingOut ∨ k.state = .live ∧ ¬ held) → ContextRan env x k mem f) ∧
  ((k.state = .idle ∨ k.state = .ready ∨ k.state = .live ∧ held) → f = ⟨k, none, mem⟩) ∧
  (k.state = .loading → f = ⟨{ k with loadCount := k.loadCount + 1 }, none, mem⟩) ∧
  ((k.state = .spilling ∨ k.state = .cutting) → f = ctxFrame env false fade x k mem)

/-- The output pair of a chain that the governor has not bypassed, from the frames of its two contexts: the main pair by
the fade (R20, R83, R84), and the saturated exact sum of it and the tail pairs (R21); none where no context is LIVE,
FADING_OUT, SPILLING or CUTTING (R22). -/
def PairsSummed (fade : Fade) (k l : Ctx) (f g : CtxFrame) (out : Option (Int × Int)) : Prop :=
  let of (state : CtxState) : Int × Int :=
    if k.state = state then f.pair.getD (0, 0) else if l.state = state then g.pair.getD (0, 0) else (0, 0)
  let mixed (mix : Int → Int → Int) (o w : Int × Int) : Int × Int := (mix o.1 w.1, mix o.2 w.2)
  let cross := mixed (crossfade fade.length fade.k)
  let dip := mixed (dipMix fade.k)
  let tail (c : Ctx) (pair : Option (Int × Int)) : Int × Int :=
    if c.state = .spilling ∨ c.state = .cutting then pair.getD (0, 0) else (0, 0)
  let runs (c : Ctx) : Prop := c.state = .live ∨ c.state = .fadingOut ∨ c.state = .spilling ∨ c.state = .cutting
  ∃ main : Int × Int,
    (fade.kind = .none → main = of .live) ∧
    (fade.kind = .cross → main = cross (of .fadingOut) (of .live)) ∧
    (fade.kind = .fadeIn → main = cross (0, 0) (of .live)) ∧
    (fade.kind = .fadeOut → main = cross (of .live) (0, 0)) ∧
    (fade.kind = .dipCross → main = dip (of .fadingOut) (of .live)) ∧
    (fade.kind = .dipIn → main = dip (0, 0) (of .live)) ∧
    (fade.kind = .dipOut → main = dip (of .live) (0, 0)) ∧
    ((runs k ∨ runs l) → out = some (saturate (main.1 + (tail k f.pair).1 + (tail l g.pair).1),
      saturate (main.2 + (tail k f.pair).2 + (tail l g.pair).2))) ∧
    (¬ runs k → ¬ runs l → out = none)

/-! ### The terms of statements about the governor (R156 to R161) -/

/-- A stage that passes 1 and 2 reach: one of a full-list context, FADING_OUT, or LIVE and not held in a dip (R156). -/
def Reached (r : RunSet) (p : Place) (st : Stage) : Prop :=
  r.ctxs[p.chain][p.ctx].stages[p.stage]? = some st ∧
    (r.ctxs[p.chain][p.ctx].state = .fadingOut ∨
      r.ctxs[p.chain][p.ctx].state = .live ∧ r.ctxs[p.chain][p.ctx].held r.fades[p.chain] = false)

/-- Place p comes before place q by the keys 2 to 4 of R156: the higher chain, then the FADING_OUT context before the LIVE
one, then the higher stage index. -/
def Precedes (r : RunSet) (p q : Place) : Prop :=
  q.chain < p.chain ∨ q.chain = p.chain ∧
    (r.ctxs[p.chain][p.ctx].state = .fadingOut ∧ r.ctxs[q.chain][q.ctx].state = .live ∨
      p.ctx = q.ctx ∧ q.stage < p.stage)

/-- A candidate of pass 1: a SHAPER, not bypassed, whose effective oversampling is above 1 (R156). -/
def CanHalve (r : RunSet) (p : Place) (st : Stage) : Prop :=
  Reached r p st ∧ st.record.params.kind = 4 ∧ st.record.bypass = false ∧ 1 < oversampling st.effective

/-- A step of pass 1: the candidate with the largest effective oversampling, then the first by the keys, is halved
(R156). -/
def HalveStep (budget : Nat) (e f : Course) : Prop :=
  budget < e.set.demand ∧ ∃ (p : Place) (st : Stage), CanHalve e.set p st ∧
    (∀ (q : Place) (su : Stage), CanHalve e.set q su → oversampling su.effective ≤ oversampling st.effective ∧
      (oversampling su.effective = oversampling st.effective → ¬ Precedes e.set q p)) ∧
    2 * oversampling st.halve.effective = oversampling st.effective ∧
    f = { e with set := e.set.modify Stage.halve p, halvings := e.halvings + 1 }

/-- A candidate of pass 2: sheddable, not bypassed, without a shed mark (R157). -/
def CanShed (r : RunSet) (p : Place) : Prop :=
  ∃ st : Stage, Reached r p st ∧ st.record.sheddable = true ∧ st.record.bypass = false ∧ st.shed = false

/-- A step of pass 2: the first candidate by the keys takes the shed mark (R157). -/
def ShedStep (budget : Nat) (e f : Course) : Prop :=
  budget < e.set.demand ∧ ∃ p : Place, CanShed e.set p ∧ (∀ q : Place, CanShed e.set q → ¬ Precedes e.set q p) ∧
    f = { e with set := e.set.modify (fun st => { st with shed := true }) p, sheds := e.sheds + 1 }

/-- A step of pass 3: the SPILLING context of the highest chain, context 1 before context 0, is cut (R158). -/
def TailCutStep (budget : Nat) (e f : Course) : Prop :=
  budget < e.set.demand ∧ ∃ (c : Fin 4) (x : Fin 2), e.set.ctxs[c][x].state = .spilling ∧
    (∀ (d : Fin 4) (y : Fin 2), e.set.ctxs[d][y].state = .spilling → ¬ (c < d ∨ c = d ∧ x < y)) ∧
    f = { e with set := e.set.cut c x, cuts := e.cuts + 1 }

/-- A fade that starts now (R159). -/
def DipsNow (r : RunSet) (c : Fin 4) : Prop :=
  r.fades[c].k = 0 ∧ (r.fades[c].kind = .cross ∨ r.fades[c].kind = .fadeIn ∨ r.fades[c].kind = .fadeOut)

/-- The outgoing context of a fade in progress with more than 32 frames to run, and the fade that its cut leaves (R86,
R159). -/
def LongFade (r : RunSet) (c : Fin 4) (x : Fin 2) (left : Fade) : Prop :=
  ¬ DipsNow r c ∧ r.fades[c].k + 32 < r.fades[c].length ∧
    (r.fades[c].kind = .cross ∧ fadingCtx r.ctxs[c] = some x ∧ left = { r.fades[c] with kind := .fadeIn } ∨
      r.fades[c].kind = .fadeOut ∧ liveCtx r.ctxs[c] = some x ∧ left = Fade.rest)

/-- A chain whose fade qualifies for pass 4 (R159). -/
def Qualifies (r : RunSet) (c : Fin 4) : Prop := DipsNow r c ∨ ∃ (x : Fin 2) (left : Fade), LongFade r c x left

/-- A step of pass 4 at the highest chain that qualifies: the fade becomes a dip, or its outgoing context is cut
(R159). -/
def FadeStep (budget : Nat) (e f : Course) : Prop :=
  budget < e.set.demand ∧ ∃ c : Fin 4, (∀ d : Fin 4, c < d → ¬ Qualifies e.set d) ∧
    ((DipsNow e.set c ∧ f = { e with
        set := { e.set with fades := upd e.set.fades c { e.set.fades[c] with kind := e.set.fades[c].kind.asDip } }
        dips := e.dips + 1 }) ∨
      ∃ (x : Fin 2) (left : Fade), LongFade e.set c x left ∧
        f = { e with set := { e.set.cut c x with fades := upd e.set.fades c left }, cuts := e.cuts + 1 })

/-- A step of pass 5: the highest chain without the bypass mark takes it, and its contexts other than the LIVE one go to
IDLE (R160). -/
def BypassStep (budget : Nat) (e f : Course) : Prop :=
  budget < e.set.demand ∧ ∃ c : Fin 4, e.set.bypass[c] = false ∧ (∀ d : Fin 4, c < d → e.set.bypass[d] = true) ∧
    f = { e with set := RunSet.drop c 1 (RunSet.drop c 0 { e.set with bypass := upd e.set.bypass c true }) }

/-- A pass: its steps one at a time, until the demand fits or no candidate is left (R155). -/
def Passes (budget : Nat) (steps : Nat → Course → Course → Prop) (candidates : RunSet → Prop) (e f : Course) : Prop :=
  Relation.ReflTransGen (steps budget) e f ∧ (f.set.demand ≤ budget ∨ ¬ candidates f.set)

/-- Passes 1 and 2 in turn (R156, R157). -/
def Passes12 (budget : Nat) (r : RunSet) (e : Course) : Prop :=
  ∃ d : Course,
    Passes budget HalveStep (fun r => ∃ (p : Place) (st : Stage), CanHalve r p st) ⟨r, 0, 0, 0, 0⟩ d ∧
    Passes budget ShedStep (fun r => ∃ p : Place, CanShed r p) d e

/-- The five passes in turn (R155 to R160). -/
def Passes15 (budget : Nat) (r : RunSet) (e : Course) : Prop :=
  ∃ a b c : Course, Passes12 budget r a ∧
    Passes budget TailCutStep (fun r => ∃ (c : Fin 4) (x : Fin 2), r.ctxs[c][x].state = .spilling) a b ∧
    Passes budget FadeStep (fun r => ∃ c : Fin 4, Qualifies r c) b c ∧
    Passes budget BypassStep (fun r => ∃ c : Fin 4, r.bypass[c] = false) c e

/-! ### The terms of statements about link search and *Restart* -/

/-- A change that has not switched and a pending request have ended ABORTED, the pending one last (R90, R91). -/
def Aborted (s t : State) : Prop :=
  t.scc.change = .idle ∧ t.scc.inFlight = none ∧ t.scc.waiting = none ∧
    (∀ r : Request, s.scc.waiting = some r → t.scc.last = some ⟨.aborted, r, r.names⟩) ∧
    (s.scc.waiting = none →
      (∀ f : InFlight, s.scc.inFlight = some f → (s.scc.change = .cutting ∨ s.scc.change = .loading) →
        t.scc.last = some ⟨.aborted, f.request, some f.target⟩) ∧
      ((s.scc.inFlight = none ∨ s.scc.change = .idle ∨ s.scc.change = .fading) → t.scc.last = s.scc.last))

/-- The mailbox of a channel is written where its state or its mute request has changed (R128). -/
def ChannelReported (s t : State) (c : Fin 4) : Prop :=
  let k := s.tun.channels[c]
  let m := t.tun.channels[c]
  ((m.state ≠ k.state ∨ t.tun.mute c ≠ s.tun.mute c) →
    t.lct.boxes.tuner[c] = ⟨⟨m.state, m.reading, t.tun.mute c⟩, true⟩) ∧
  (m.state = k.state → t.tun.mute c = s.tun.mute c → t.lct.boxes.tuner[c] = s.lct.boxes.tuner[c])

/-- The lane as an entry to SEARCH leaves it: a parcel of which words have left is gone, and each class joins the pending
set in turn, behind a notice that is due: LINK; SCENE for a change and for a pending request that end ABORTED; TUNER for
a channel that leaves READY; GOVERN for an evaluation that has changed a mark (R90, R129, R162, R175, R185, R192). -/
def searchLane (s t : State) : State :=
  let told := raise .link s
  let whole : State := { told with lct := { told.lct with
    queue := if told.lct.headSent then told.lct.queue.drop 1 else told.lct.queue
    headSent := false } }
  raiseIf (t.bgv.halvings ≠ s.bgv.halvings || t.bgv.sheds ≠ s.bgv.sheds || t.bgv.bypass ≠ s.bgv.bypass) .govern
    (raiseIf (chains.any fun c =>
        measures s.tun.channels[c].mode s.tun.engaged && s.tun.channels[c].state = .ready) .tuner
      (raiseIf s.scc.waiting.isSome .scene
        (raiseIf (s.scc.inFlight.isSome && (s.scc.change = .cutting || s.scc.change = .loading)) .scene whole)))

/-- A context as link search leaves it: one that stays LIVE keeps its records, its blocks and its current read lengths and
is zeroed otherwise; every other one is IDLE (R8, R53, R90; an IDLE context holds what log entry 3 says). -/
def CtxSearched (s t : State) (c : Fin 4) (x : Fin 2) : Prop :=
  let k := s.scc.ctx c x
  (staysLive s.scc.fades[c] k = true → t.scc.ctx c x = { k with stages := (t.scc.ctx c x).stages } ∧
    (t.scc.ctx c x).stages.map Stage.record = k.stages.map Stage.record ∧
    (t.scc.ctx c x).stages.map Stage.blocks = k.stages.map Stage.blocks ∧
    (t.scc.ctx c x).stages.map Stage.proc = k.stages.map fun st =>
      { Proc.zero with line := { fill := 0, writePos := 0, readLength := st.proc.line.readLength } }) ∧
  (staysLive s.scc.fades[c] k = false → t.scc.ctx c x = Ctx.empty)

/-- The evaluation that an entry to SEARCH takes at once, where it has changed the state of a context or an evaluation was
still to come (R154, R162). -/
def SearchEvaluated (s t : State) : Prop :=
  let taken : Prop := s.bgv.evaluate = true ∨ ∃ (c : Fin 4) (x : Fin 2), (t.scc.ctx c x).state ≠ (s.scc.ctx c x).state
  (taken → t.bgv = { s.bgv with
      bypass := t.bgv.bypass, halvings := t.bgv.halvings, sheds := t.bgv.sheds
      dips := min 255 s.bgv.dips, cuts := min 255 s.bgv.cuts
      requestedDemand := t.runSet.atRequest.demand, demand := t.runSet.demand, evaluate := false } ∧
    t.runSet.demand ≤ t.budget ∧ t.lct.boxes.governor = ⟨governorRecord t, true⟩ ∧
    ((∀ (c : Fin 4) (x : Fin 2), (s.scc.ctx c x).stages.length ≤ 12) → ∃ e : Course,
      Passes15 t.budget t.runSet.atRequest e ∧ e.set = t.runSet ∧ e.halvings = t.bgv.halvings ∧
      e.sheds = t.bgv.sheds)) ∧
  (¬ taken → t.bgv = s.bgv ∧ t.lct.boxes.governor = s.lct.boxes.governor ∧
    ∀ (c : Fin 4) (x : Fin 2), staysLive s.scc.fades[c] (s.scc.ctx c x) = true →
      (t.scc.ctx c x).stages.map (fun st => (st.effective, st.shed)) =
        (s.scc.ctx c x).stages.map fun st => (st.effective, st.shed))

/-- What an entry to SEARCH leaves (R8, R53, R56, R90, R103, R130, R140, R154, R175, R182, R185). F and k of a fade record
at NONE are log entry 4's, and the k of a slot without a ramp log entry 8's. -/
def SearchEntered (s t : State) : Prop :=
  t.lif = { s.lif with state := .search, expected := none, held := silence, misses := 0, periods := 0, span := 0 } ∧
    t.lct = { s.lct with
      assembler := .outside, headSent := false, queue := (searchLane s t).lct.queue
      notices := (searchLane s t).lct.notices, counters := t.lct.counters, boxes := t.lct.boxes } ∧
    t.lct.boxes.link =
      ⟨⟨.search, s.lif.rate, s.lct.counters.slips, s.lct.counters.frameChecks⟩, true⟩ ∧
    t.lct.boxes.tempo = s.lct.boxes.tempo ∧ t.lct.boxes.supply = s.lct.boxes.supply ∧
    t.lct.boxes.meters = s.lct.boxes.meters ∧
    (∀ (c : Fin 4) (x : Fin 2), CtxSearched s t c x) ∧
    t.dpl.free.Perm (s.dpl.free ++ allCtxs.flatMap fun cx =>
      if staysLive s.scc.fades[cx.1] (s.scc.ctx cx.1 cx.2) then [] else (s.scc.ctx cx.1 cx.2).blocks) ∧
    t.dpl.mem = s.dpl.mem ∧ (∀ c : Fin 4, t.scc.fades[c] = ⟨.none, 0, 0, false⟩) ∧ Aborted s t ∧
    ((s.scc.change ≠ .idle ∨ s.scc.waiting ≠ none) → t.lct.boxes.scene =
      ⟨⟨s.scc.live, .idle, none, none, t.scc.last, s.scc.stack.length⟩, true⟩) ∧
    (s.scc.change = .idle → s.scc.waiting = none → t.lct.boxes.scene = s.lct.boxes.scene) ∧
    t.scc.stack = s.scc.stack ∧ t.scc.live = s.scc.live ∧ t.scc.scenes = s.scc.scenes ∧
    t.tfu = { s.tfu with taps := [], previousTap := none } ∧
    (∀ i : Fin 8, t.ort.owners[i] = { owner := .fill, outgoing := none, k := 0 }) ∧ t.ort.routes = s.ort.routes ∧
    t.ort.panic = s.ort.panic ∧ t.tun.engaged = s.tun.engaged ∧ t.tun.reference = s.tun.reference ∧
    (∀ c : Fin 4, ChannelReported s t c ∧
      (measures s.tun.channels[c].mode s.tun.engaged = true →
        t.tun.channels[c] = { s.tun.channels[c] with state := .noSignal, measure := Measure.empty }) ∧
      (measures s.tun.channels[c].mode s.tun.engaged = false → t.tun.channels[c] = s.tun.channels[c])) ∧
    SearchEvaluated s t ∧ t.chp = s.chp ∧ t.pending = s.pending

/-! ### The terms of statements about contexts and fades -/

/-- A context has gone to IDLE and its blocks have returned to the free list; an evaluation is due, and nothing else has
changed (R56, R154). -/
def Idled (s t : State) (c : Fin 4) (x : Fin 2) : Prop :=
  t.scc.ctx c x = Ctx.empty ∧ t.dpl.free.Perm ((s.scc.ctx c x).blocks ++ s.dpl.free) ∧
    t = { s with
      scc := { s.scc with ctxs := t.scc.ctxs }
      dpl := { s.dpl with free := t.dpl.free }
      bgv := { s.bgv with evaluate := true } } ∧
    ∀ (d : Fin 4) (y : Fin 2), (d, y) ≠ (c, x) → t.scc.ctx d y = s.scc.ctx d y

/-- The stage records of a tail context, and its blocks: those of its spill-flagged DELAY stages stay, the others' return
to the free list (R56). -/
def TailKept (s t : State) (c : Fin 4) (x : Fin 2) : Prop :=
  (t.scc.ctx c x).stages.map Stage.record = (s.scc.ctx c x).stages.map Stage.record ∧
    (t.scc.ctx c x).stages.map Stage.proc = (s.scc.ctx c x).stages.map Stage.proc ∧
    (t.scc.ctx c x).stages.map Stage.blocks =
      (s.scc.ctx c x).stages.map (fun st => if st.record.spills then st.blocks else []) ∧
    (t.scc.ctx c x).pan = (s.scc.ctx c x).pan ∧ (t.scc.ctx c x).scene = (s.scc.ctx c x).scene ∧
    t.dpl.free.Perm ((s.scc.ctx c x).dryBlocks ++ s.dpl.free)

/-- The part of an outgoing context has ended: it is in SPILLING with both counts at 0 and the largest limit of its
spill-flagged stages, or in IDLE when it has none (R58, R85). -/
def LeftFade (s t : State) (c : Fin 4) (x : Fin 2) : Prop :=
  ((s.scc.ctx c x).spills = true → (t.scc.ctx c x).state = .spilling ∧ (t.scc.ctx c x).spillCount = 0 ∧
    (t.scc.ctx c x).quietCount = 0 ∧ (t.scc.ctx c x).spillLimit = (s.scc.ctx c x).limit ∧ TailKept s t c x) ∧
  ((s.scc.ctx c x).spills = false → t.scc.ctx c x = Ctx.empty ∧
    t.dpl.free.Perm ((s.scc.ctx c x).blocks ++ s.dpl.free)) ∧
  ∀ (d : Fin 4) (y : Fin 2), (d, y) ≠ (c, x) → t.scc.ctx d y = s.scc.ctx d y

/-- A SPILLING context as its cut leaves it: CUTTING from position 64, with its stages and the blocks of its spill-flagged
DELAY stages (R56, R61). -/
def CutFrom (k m : Ctx) : Prop :=
  m.state = .cutting ∧ m.cut = 64 ∧ m.pan = k.pan ∧ m.scene = k.scene ∧
    m.stages.map Stage.record = k.stages.map Stage.record ∧ m.stages.map Stage.proc = k.stages.map Stage.proc ∧
    m.stages.map Stage.blocks = k.stages.map fun st => if st.record.spills then st.blocks else []

/-- A load has started: every RUN chain's standby context is LOADING with its section of the change copy, zeroed and at its
requested values. Its stages take the first blocks of the free list, chain by chain and stage by stage in ascending order
(R55, R79; what else a LOADING context holds is log entry 3's). -/
def Loaded (f : InFlight) (s t : State) : Prop :=
  t.scc.change = .loading ∧ t.scc.inFlight = some f ∧
    (∀ c : Fin 4, f.copy.sections[c].mode = .run →
      let k := t.scc.ctx c f.standby[c]
      k.state = .loading ∧ k.scene = some f.target ∧ k.pan = f.copy.sections[c].pan ∧ k.loadCount = 0 ∧
      k.stages.map Stage.record = f.copy.sections[c].stages.toList.take f.copy.sections[c].count ∧
      (∀ st ∈ k.stages, st.proc = Proc.zero ∧ st.effective = st.record.requested ∧ st.shed = false ∧
        st.blocks.length = st.record.need) ∧
      t.bgv.evaluate = true) ∧
    (∀ (c : Fin 4) (x : Fin 2), (f.copy.sections[c].mode ≠ .run ∨ x ≠ f.standby[c]) →
      t.scc.ctx c x = s.scc.ctx c x) ∧
    (chains.flatMap fun c => if f.copy.sections[c].mode = .run then (t.scc.ctx c f.standby[c]).blocks else []) =
      s.dpl.free.take f.copy.need ∧
    t.dpl.free = s.dpl.free.drop f.copy.need ∧ t.dpl.mem = s.dpl.mem ∧
    (s.dpl.free.Pairwise (· < ·) → t.dpl.free.Pairwise (· < ·) ∧
      ∀ a ∈ s.dpl.free.take f.copy.need, ∀ b ∈ t.dpl.free, a < b) ∧
    t.lct.boxes.scene = ⟨⟨s.scc.live, .loading, some f.target, s.scc.waiting, s.scc.last, s.scc.stack.length⟩, true⟩

/-! ### The terms of statements about the tuner, the lines and their actions -/

/-- A channel after a change of its record or of the engaged flag: it stops, starts afresh in SETTLING, or goes on
(R116, R118; the state of a channel that does not measure is log entry 39's). -/
def Follows (engaged : Bool) (k m : Channel) : Prop :=
  (measures k.mode engaged = false → m = { k with state := .off, measure := Measure.empty }) ∧
  (measures k.mode engaged = true → k.state = .off → m = { k with state := .settling, measure := Measure.empty }) ∧
  (measures k.mode engaged = true → k.state ≠ .off → m = k)

/-- The tuner's record replaced, with the mailboxes of the channels whose state or mute request changes; nothing else
changes (R128). -/
def TunerReported (tun : Tun) (s u : State) : Prop :=
  ∃ boxes : Vector (Box TunerRecord) 4,
    u = { s with tun := tun, lct := { s.lct with boxes := { s.lct.boxes with tuner := boxes } } } ∧
    ∀ c : Fin 4, ChannelReported s u c

/-- The tuner's record replaced, with its reports: the mailboxes, and TUNER, behind a notice that is due, when a channel
goes into or out of READY; nothing else changes (R128, R129, R192). -/
def TunerMoved (tun : Tun) (s t : State) : Prop :=
  ∃ u : State, TunerReported tun s u ∧
    ((∀ c : Fin 4, s.tun.channels[c].state = .ready ↔ tun.channels[c].state = .ready) → t = u) ∧
    ((∃ c : Fin 4, ¬ (s.tun.channels[c].state = .ready ↔ tun.channels[c].state = .ready)) → t = raise .tuner u)

/-- The engaged flag takes a value and every channel follows it (R117, R118). -/
def EngageMoved (engaged : Bool) (s t : State) : Prop :=
  ∃ channels : Vector Channel 4, (∀ c : Fin 4, Follows engaged s.tun.channels[c] channels[c]) ∧
    TunerMoved { s.tun with engaged := engaged, channels := channels } s t

/-- A tap by the table of R104, without its answer (R103, R104). -/
def Tapped (s t : State) : Prop :=
  let fresh : State := { s with tfu := { s.tfu with taps := [], previousTap := some s.tfu.frames } }
  (s.lif.state.processing = false → t = s) ∧
  (s.lif.state.processing = true → s.tfu.previousTap = none → t = fresh) ∧
  ∀ p : Nat, s.lif.state.processing = true → s.tfu.previousTap = some p →
    let interval := s.tfu.frames - p
    (2 * s.hz < interval → t = fresh) ∧
    (interval ≤ 2 * s.hz → interval < s.hz / 4 → t = s) ∧
    (interval ≤ 2 * s.hz → s.hz / 4 ≤ interval →
      let all := s.tfu.taps ++ [interval]
      let taps := all.drop (all.length - 4)
      t = applyPeriod .tap ((taps.sum + taps.length / 2) / taps.length)
        { s with tfu := { s.tfu with taps := taps, previousTap := some s.tfu.frames } })

/-- The bypass flag of a stage of the chain's LIVE context is inverted, a live edit; without such a stage nothing happens
(R26, R111, R154). -/
def Toggled (c : Fin 4) (i : Nat) (s t : State) : Prop :=
  ((∀ x : Fin 2, liveCtx s.scc.ctxs[c] = some x → (s.scc.ctx c x).stages.length ≤ i) → t = s) ∧
  ∀ (x : Fin 2) (st : Stage), liveCtx s.scc.ctxs[c] = some x → (s.scc.ctx c x).stages[i]? = some st →
    let toggled : Stage := { st with record := { st.record with bypass := !st.record.bypass } }
    let u := putCtx c x { s.scc.ctx c x with stages := (s.scc.ctx c x).stages.modify i fun _ => toggled } s
    (s.lif.state.processing = true → t = markEvaluation u) ∧ (s.lif.state.processing = false → t = evaluateNow u)

/-- A footswitch action fires (R111, Table 5-3). -/
def Fires (a : Action) (s t : State) : Prop :=
  match a with
  | .none => t = s
  | .select n => t = (requestArrives (.select n false) s).1
  | .call n => t = (requestArrives (.call n) s).1
  | .ret => t = (requestArrives .ret s).1
  | .tap => Tapped s t
  | .tuner => EngageMoved (!s.tun.engaged) s t
  | .panic => t = { s with ort := { s.ort with panic := !s.ort.panic } }
  | .stageToggle c i => Toggled c i.val s t

/-- An entry joins the footswitch log, and FOOT the pending set; a full log loses its oldest entry and the overflow
counter rises (R112; the tick of an entry is log entry 23's). -/
def Logged (i : Fin 8) (event : LogEvent) (s t : State) : Prop :=
  let entry : LogEntry := ⟨i, event, s.tfu.tick⟩
  (s.tfu.log.length < 16 → t = raise .foot { s with tfu := { s.tfu with log := s.tfu.log ++ [entry] } }) ∧
  (16 ≤ s.tfu.log.length → t = raise .foot { s with
    tfu := { s.tfu with log := s.tfu.log.drop 1 ++ [entry] }
    lct := { s.lct with
      counters := { s.lct.counters with logOverflows := min 65535 (s.lct.counters.logOverflows + 1) } } })

/-- The transition of line i at a tick, but for the hold itself (R108, R109, Figure 5-2). -/
def LineTick (i : Fin 8) (s t : State) : Prop :=
  let l := s.tfu.lines[i]
  let closed : Prop := l.high = l.record.closedHigh
  let moved (m : Line) : State := { s with tfu := { s.tfu with lines := upd s.tfu.lines i m } }
  (l.state = .disabled → t = s) ∧
  (l.state = .opened → ¬ closed → t = s) ∧
  (l.state = .opened → closed →
    (l.record.hold ≠ .none →
      Logged i .press (moved { l with state := .closedTiming, holdCount := 0, deferred := true }) t) ∧
    (l.record.hold = .none → ∃ u : State,
      Logged i .press (moved { l with state := .closedTiming, holdCount := 0, deferred := false }) u ∧
      Fires l.record.press u t)) ∧
  (l.state = .closedTiming → closed → t = moved { l with holdCount := l.holdCount + 1 }) ∧
  (l.state = .closedTiming → ¬ closed → ∃ u : State,
    Logged i .release (moved { l with state := .opened, deferred := false }) u ∧
    (l.deferred = false → t = u) ∧ (l.deferred = true → Fires l.record.press u t)) ∧
  (l.state = .closedHeld → closed → t = s) ∧
  (l.state = .closedHeld → ¬ closed → Logged i .release (moved { l with state := .opened, deferred := false }) t)

/-- The hold count of a line in CLOSED_TIMING has reached its hold time, which is in units of 10 ms (R109). -/
def HoldTimeReached (i : Fin 8) (s : State) : Prop :=
  s.tfu.lines[i].state = .closedTiming ∧ 10 * s.tfu.lines[i].record.holdTime ≤ s.tfu.lines[i].holdCount

/-- The transitions of a tick from line m up, line by line in ascending order (R108); they wait at the first line whose
hold time is reached, for HOLD to take its hold. -/
def LinesTick (m : Nat) (s t : State) : Prop :=
  ∃ (us : Nat → State) (n : Nat), us m = s ∧ m ≤ n ∧ n ≤ 8 ∧
    (∀ k : Fin 8, m ≤ k.val → k.val < n → LineTick k (us k.val) (us (k.val + 1)) ∧
      (k.val + 1 < n → ¬ HoldTimeReached k (us (k.val + 1)))) ∧
    ((n = 8 ∧ (∀ k : Fin 8, m ≤ k.val → k.val = 7 → ¬ HoldTimeReached k (us 8)) ∧
        t = { us 8 with tfu := { (us 8).tfu with scan := none } }) ∨
      ∃ k : Fin 8, m ≤ k.val ∧ n = k.val + 1 ∧ HoldTimeReached k (us n) ∧
        t = { us n with tfu := { (us n).tfu with scan := some k } })

/-! ### The terms of statements about show lock and lines of delay -/

/-- The tables that only guarded parcels write (R146). -/
def SameTables (s t : State) : Prop :=
  t.chp.inputs = s.chp.inputs ∧ t.chp.curves = s.chp.curves ∧ t.chp.cabs = s.chp.cabs ∧
    t.scc.scenes = s.scc.scenes ∧ t.ort.routes = s.ort.routes ∧ t.lif.inFormat = s.lif.inFormat ∧
    t.lif.outFormat = s.lif.outFormat ∧ (∀ i : Fin 8, t.tfu.lines[i].record = s.tfu.lines[i].record) ∧
    ∀ c : Fin 4, t.tun.channels[c].mode = s.tun.channels[c].mode ∧
      t.tun.channels[c].muteOnEngage = s.tun.channels[c].muteOnEngage

/-- The outputs of a DELAY stage over the frames of a list of inputs, the first input first. -/
def delayOutputs (p : DelayParams) (period : Nat) : List Int → Stage → List (Nat × Int) → List Int
  | [], _, _ => []
  | x :: inputs, st, mem =>
    (delayStep p st period x mem).out ::
      delayOutputs p period inputs (delayStep p st period x mem).stage (delayStep p st period x mem).mem

/-! ### The terms of statements about the layouts of records (R202, R203, Tables 11-6 and 11-7) -/

/-- The stage record that ten words store: the kind, bypass, sheddable and spill bits of word 0, code 7 being taken as
DELAY, and words 1 to 9 by Table 11-6, each clamped to its range (R202, Table 11-5). Which half of words 6 to 8 holds the
low byte of which coefficient is log entry 14's. -/
def RecordStored (words : List Word) (r : StageRecord) : Prop :=
  let w (j : Nat) : Word := words.getD j 0
  let one (j : Nat) : Nat := (w j).toNat
  let two (j : Nat) : Nat := 65536 * one j + one (j + 1)
  let within (low high n : Nat) : Nat := max low (min high n)
  let division (n : Nat) : Division := if n = 0 then .half else if n = 1 then .quarter else if n = 2 then .dottedEighth
    else if n = 3 then .quarterTriplet else if n = 4 then .eighth else .sixteenth
  let code := one 0 % 8
  r.bypass = (w 0).getLsbD 3 ∧ r.sheddable = (w 0).getLsbD 4 ∧
  (code = 0 → r.params = .trim (min 32767 (one 1))) ∧
  (code = 1 → r.params = .gate (min 8388607 (two 1)) (min 8388607 (two 3)) (one 5)) ∧
  (code = 2 → r.params = .filter ((w 1).toInt * 256 + (one 6 / 256 : Nat)) ((w 2).toInt * 256 + (one 6 % 256 : Nat))
    ((w 3).toInt * 256 + (one 7 / 256 : Nat)) ((w 4).toInt * 256 + (one 7 % 256 : Nat))
    ((w 5).toInt * 256 + (one 8 / 256 : Nat))) ∧
  (code = 3 → r.params = .tremolo (min 256 (one 1)) (if one 2 = 0 then .free else .sync) (within 480 96000 (two 3))
    (division (one 5))) ∧
  (code = 4 → ∃ (curve : Fin 16) (oversampling : Fin 4), curve.val = min 15 (one 2) ∧ oversampling.val = min 3 (one 3) ∧
    r.params = .shaper (within 256 16384 (one 1)) curve oversampling (one 4)) ∧
  (code = 5 → ∃ slot : Fin 8, slot.val = min 7 (one 1) ∧ r.params = .cab slot (within 1 128 (one 2))) ∧
  (6 ≤ code → r.params = .delay
    { maxLength := within 1 131072 (two 1), mode := if one 3 = 0 then .fixed else .sync
      fixedLength := within 1 131072 (two 4), division := division (one 6), feedback := min 31130 (one 7)
      wet := min 32767 (one 8), spill := (w 0).getLsbD 5, spillLimit := within 1 4095 (one 9) })

/-- The ten words of a stage record as *Read Scene* returns them: a word that the kind does not use is 0, and so are bits
15 to 6 of word 0 and the spill flag of a kind other than DELAY (R202, Table 11-6; log entry 14 for the coefficients). -/
def RecordSent (r : StageRecord) (words : List Word) : Prop :=
  let two (n : Nat) : List Word := [word (n / 65536), word (n % 65536)]
  let division : Division → Nat
    | .half => 0
    | .quarter => 1
    | .dottedEighth => 2
    | .quarterTriplet => 3
    | .eighth => 4
    | .sixteenth => 5
  let first (code : Nat) : Word := word (code + (if r.bypass then 8 else 0) + if r.sheddable then 16 else 0)
  match r.params with
  | .trim g => words = [first 0, word g, 0, 0, 0, 0, 0, 0, 0, 0]
  | .gate lo lcl h => words = first 1 :: two lo ++ two lcl ++ [word h, 0, 0, 0, 0]
  | .filter b0 b1 b2 a1 a2 =>
    let high (z : Int) : Word := signedWord (z / 256)
    let low (z : Int) : Nat := (z % 256).toNat
    words = [first 2, high b0, high b1, high b2, high a1, high a2, word (256 * low b0 + low b1),
      word (256 * low b2 + low a1), word (256 * low a2), 0]
  | .tremolo depth mode period d =>
    words = [first 3, word depth, if mode = .free then 0 else 1] ++ two period ++ [word (division d), 0, 0, 0, 0]
  | .shaper drive curve oversampling level =>
    words = [first 4, word drive, word curve.val, word oversampling.val, word level, 0, 0, 0, 0, 0]
  | .cab slot taps => words = [first 5, word slot.val, word taps, 0, 0, 0, 0, 0, 0, 0]
  | .delay p =>
    words = first (if p.spill then 38 else 6) :: two p.maxLength ++ [if p.mode = .fixed then 0 else 1] ++
      two p.fixedLength ++ [word (division p.division), word p.feedback, word p.wet, word p.spillLimit]

/-- The records of the mailboxes in words (R203, Table 11-7; the unassigned bits are 0 by log entry 9). -/
def MailboxesLaidOut (b : Mailboxes) : Prop :=
  let two (n : Nat) : List Word := [word (n / 65536), word (n % 65536)]
  let flag (p : Bool) (n : Nat) : Nat := if p then n else 0
  let sceneOf : Option (Fin 128) → Nat
    | some n => n.val
    | none => 255
  (∀ (c : Fin 4) (i : Fin 17), i.val = c.val →
    let r := b.tuner[c].record
    let state := match r.state with
      | .off => 0
      | .noSignal => 1
      | .settling => 2
      | .ready => 3
    b.words i = [word (state + flag r.mute 4 + 256 * r.reading.note), signedWord r.reading.deviation] ++
      two r.reading.frequency) ∧
  (let r := b.tempo.record
    let source := match r.source with
      | .default => 0
      | .tap => 1
      | .parcel => 2
      | .scene => 3
      | .rescale => 4
    b.words 4 = two r.period ++ [word r.tempo, word (source + 256 * r.beats.toNat), word (r.group + 256 * r.sub)]) ∧
  (let r := b.governor.record
    let state := match r.guardState with
      | .normal => 0
      | .auto => 1
      | .forced => 2
    b.words 5 = [word r.budget, word r.requestedDemand, word r.demand, word r.halvings, word r.sheds,
      word (state + flag r.force 4 + flag r.bypass[(0 : Fin 4)] 16 + flag r.bypass[(1 : Fin 4)] 32 +
        flag r.bypass[(2 : Fin 4)] 64 + flag r.bypass[(3 : Fin 4)] 128), word (256 * r.dips + r.cuts)]) ∧
  (let r := b.scene.record
    let change := match r.change with
      | .idle => 0
      | .cutting => 1
      | .loading => 2
      | .fading => 3
    let waiting := match r.waiting with
      | none => 255
      | some (.select n reload) => n.val + 256 + flag reload 1024
      | some (.call n) => n.val + 512
      | some .ret => 255 + 768
    let kind : Request → Nat
      | .select _ _ => 1
      | .call _ => 2
      | .ret => 3
    let outcome : SceneOutcome → Nat
      | .switched => 1
      | .empty => 2
      | .absent => 3
      | .alreadyLive => 4
      | .budget => 5
      | .pool => 6
      | .superseded => 7
      | .aborted => 8
    let last := match r.last with
      | none => 255
      | some l => sceneOf l.scene + 256 * outcome l.outcome + 4096 * kind l.request
    b.words 6 = [word (sceneOf r.live + 256 * change + 4096 * r.depth), word (sceneOf r.target), word waiting,
      word last]) ∧
  (let r := b.link.record
    let state := match r.state with
      | .search => 0
      | .measure => 1
      | .locked => 2
      | .holdover => 3
    let rate := match r.rate with
      | none => 0
      | some .r44100 => 1
      | some .r48000 => 2
      | some .r88200 => 3
      | some .r96000 => 4
    b.words 7 = [word (state + 16 * rate), word r.slips, word r.frameChecks]) ∧
  (let r := b.supply.record
    let cause := match r.cause.periodic, r.cause.requested with
      | true, false => 0
      | true, true => 2
      | false, _ => 1
    (∀ n : Nat, r.reading = some n → (b.words 8).getD 0 0 = word n) ∧
    (r.reading = none → (b.words 8).getD 0 0 = 0xFFFF) ∧
    (b.words 8).drop 1 = [word r.c1, word r.c2, word (cause + if r.recovery = 1 then 4 else 0)]) ∧
  ∀ (j : Fin 8) (i : Fin 17), i.val = 9 + j.val → b.words i = two b.meters[j].record

/-! ### Ranges of stored records (R9, R10, R14, R15, R27, R36, R45) -/

/-- The parameters of a DELAY stage lie in their ranges (R45). -/
def DelayParams.inRange (p : DelayParams) : Prop :=
  1 ≤ p.maxLength ∧ p.maxLength ≤ 131072 ∧ 1 ≤ p.fixedLength ∧ p.fixedLength ≤ 131072 ∧ p.feedback ≤ 31130 ∧
    p.wet ≤ 32767 ∧ 1 ≤ p.spillLimit ∧ p.spillLimit ≤ 4095

/-- The parameters of a stage lie in the ranges of its kind. -/
def StageParams.inRange : StageParams → Prop
  | .trim g => g ≤ 32767
  | .gate lo lcl h => lo ≤ 8388607 ∧ lcl ≤ 8388607 ∧ h ≤ 65535
  | .filter b0 b1 b2 a1 a2 => IsSample b0 ∧ IsSample b1 ∧ IsSample b2 ∧ IsSample a1 ∧ IsSample a2
  | .tremolo depth _ period _ => depth ≤ 256 ∧ 480 ≤ period ∧ period ≤ 96000
  | .shaper d _ _ level => 256 ≤ d ∧ d ≤ 16384 ∧ level ≤ 65535
  | .cab _ taps => 1 ≤ taps ∧ taps ≤ 128
  | .delay p => p.inRange

end Sys2Proof.Machine
end

