-- ==== Sys2Proof/WellFormed.lean ====
section
/-! DEFINITION. What a command must satisfy to be one that the link, the lane or the pins can carry: a body has at
most 63 words (R200), an unknown kind is one that Table 11-4 does not list, and a measured count is above 0. -/

namespace Sys2Proof

/-- The kinds that no command of Table 11-4 has: 0 and 42 to 63 (R201). -/
def unknownCode (kind : BitVec 6) : Bool := kind.toNat == 0 || 42 ≤ kind.toNat

/-- The check of one command. -/
def Instr.wf : Instr → Bool
  | .powerOn => true
  | .writeChainInput _ body => body.length ≤ 63
  | .setLiveParameter _ body => body.length ≤ 63
  | .setStageBypass _ body => body.length ≤ 63
  | .writeCurvePoints _ body => body.length ≤ 63
  | .readCurvePoints _ body => body.length ≤ 63
  | .writeCabTaps _ body => body.length ≤ 63
  | .readCabTaps _ body => body.length ≤ 63
  | .readPool _ body => body.length ≤ 63
  | .writeSceneHeader _ body => body.length ≤ 63
  | .writeSection _ body => body.length ≤ 63
  | .writeStages _ body => body.length ≤ 63
  | .eraseScene _ body => body.length ≤ 63
  | .readScene _ body => body.length ≤ 63
  | .select _ body => body.length ≤ 63
  | .call _ body => body.length ≤ 63
  | .ret _ body => body.length ≤ 63
  | .readContextStatus _ body => body.length ≤ 63
  | .setTempo _ body => body.length ≤ 63
  | .tempoReset _ body => body.length ≤ 63
  | .tap _ body => body.length ≤ 63
  | .writeFootswitchLine _ body => body.length ≤ 63
  | .readFootswitchLog _ body => body.length ≤ 63
  | .writeTunerChannel _ body => body.length ≤ 63
  | .setTunerEngage _ body => body.length ≤ 63
  | .setTunerReference _ body => body.length ≤ 63
  | .writeRoute _ body => body.length ≤ 63
  | .readRoutes _ body => body.length ≤ 63
  | .setPanic _ body => body.length ≤ 63
  | .showLockOn _ body => body.length ≤ 63
  | .showLockOff _ body => body.length ≤ 63
  | .permit _ body => body.length ≤ 63
  | .forceGuardOn _ body => body.length ≤ 63
  | .forceGuardOff _ body => body.length ≤ 63
  | .supplyCheck _ body => body.length ≤ 63
  | .writeLinkFormat _ body => body.length ≤ 63
  | .readMailboxes _ body => body.length ≤ 63
  | .readNotices _ body => body.length ≤ 63
  | .writeNoticeMask _ body => body.length ≤ 63
  | .readCounters _ body => body.length ≤ 63
  | .identify _ body => body.length ≤ 63
  | .restart _ body => body.length ≤ 63
  | .unknownKind kind _ body => unknownCode kind && body.length ≤ 63
  | .parcelComplete => true
  | .notice => true
  | .enterMeasure => true
  | .measureSyncMissing => true
  | .measurementComplete count => 0 < count
  | .frameReceived _ => true
  | .missingSync => true
  | .enterHoldover => true
  | .holdoverPeriod => true
  | .holdoverReturn _ => true
  | .holdoverExpiry => true
  | .rateDeparture count => 0 < count
  | .idleFrame => true
  | .tempoResetTaken => true
  | .beat => true
  | .subdivision => true
  | .governorEvaluation => true
  | .loadStart => true
  | .loadComplete _ _ => true
  | .switch => true
  | .dipHalfway _ => true
  | .fadeEnd _ => true
  | .pendingRequestStart => true
  | .tailEnd _ _ => true
  | .spillLimit _ _ => true
  | .cutComplete _ _ => true
  | .rampEnd _ => true
  | .tunerSilence _ => true
  | .msTick _ => true
  | .hold _ => true
  | .measurementStart => true
  | .supplyReading _ _ => true

end Sys2Proof
end

