-- ==== Sys2Proof/Certificates/Slice0/Obligations.lean ====
section
/-! DEFINITION. The statements about the part, for the provers. -/

open Sys2Proof Sys2Proof.Machine

/-! ### The queue of commands, power-on and the invariants of every step -/

/-- The front command of the queue is executed with the rest of the queue, and an empty queue idles (log entry 6). -/
def Obligations.StepTakesTheFrontCommand : Prop :=
  (∀ (c : Instr) (rest : List Instr) (s : State), step (s.withPending (c :: rest)) = exec c (s.withPending rest)) ∧
    ∀ s : State, step (s.withPending []) = .next (s.withPending [])

/-- POWER_ON sets the state to its power-on values (R166) and keeps the queue of commands that wait, which is the model's
choice of log entry 32; the link and the lane stand as R166, R189, R194 and R198 say. -/
def Obligations.PowerOnSetsLinkAndLane : Prop :=
  ∀ s : State, ∃ t, exec .powerOn s = .next t ∧ t = State.reset.withPending s.pending ∧
    t.lif.state = .search ∧ t.lif.rate = none ∧ t.lif.count = none ∧ t.lif.expected = none ∧
    (∀ i : Fin 8, t.lif.held[i] = 0) ∧ t.lif.outNumber = 0 ∧ t.lif.inFormat = .left ∧ t.lif.outFormat = .left ∧
    t.lct.assembler = .outside ∧ t.lct.hold = [] ∧ t.lct.queue = [] ∧ t.lct.notices = 0 ∧ t.lct.mask = 0x7F ∧
    t.lct.showLocked = false ∧ t.lct.permit = false ∧
    t.lct.counters = ⟨0, 0, 0, 0, 0, 0, 0, 0, 0⟩ ∧ ∀ i : Fin 17, t.lct.boxes.fresh i = false

/-- What the blocks hold at power-on: chain inputs, store, pool, scenes, contexts, fades, stack, tempo, lines, tuner,
routes, owners, panic flag and guard (R1, R43, R54, R63, R69, R83, R88, R94, R106, R115, R132, R164). -/
def Obligations.PowerOnLeavesEveryBlockAsStated : Prop :=
  ((∀ c : Fin 4, State.reset.chp.inputs[c] = ⟨⟨c.val, by omega⟩, 0, false⟩) ∧
  (∀ (k : Fin 16) (i : Fin 257), State.reset.chp.curves[k].live[i] = saturate (((i.val : Int) - 128) * 65536) ∧
    State.reset.chp.curves[k].shadow[i] = saturate (((i.val : Int) - 128) * 65536)) ∧
  (∀ (k : Fin 8) (i : Fin 128), State.reset.chp.cabs[k].live[i] = (if i.val = 0 then 8388607 else 0) ∧
    State.reset.chp.cabs[k].shadow[i] = (if i.val = 0 then 8388607 else 0)) ∧
  State.reset.dpl.free = List.range 48 ∧ (∀ n : Fin 128, State.reset.scc.scenes[n] = none) ∧
  (∀ (c : Fin 4) (x : Fin 2), (State.reset.scc.ctx c x).state = .idle ∧ (State.reset.scc.ctx c x).blocks = []) ∧
  (∀ c : Fin 4, State.reset.scc.fades[c].kind = .none) ∧
  State.reset.scc.change = .idle ∧ State.reset.scc.stack = [] ∧ State.reset.scc.live = none) ∧
  State.reset.tfu.period = 24000 ∧ State.reset.tfu.phase = 0 ∧ State.reset.tfu.group = 0 ∧
  State.reset.tfu.beats = 0 ∧ State.reset.tfu.sub = 0 ∧ State.reset.tfu.source = .default ∧
  State.reset.tfu.taps = [] ∧ State.reset.tfu.previousTap = none ∧ State.reset.tfu.log = [] ∧ State.reset.tfu.tick = 0 ∧
  (∀ i : Fin 8, State.reset.tfu.lines[i] = ⟨⟨false, false, 60, .none, .none⟩, true, 0, .disabled, 0, false⟩) ∧
  (∀ c : Fin 4, State.reset.tun.channels[c].mode = .engaged ∧ State.reset.tun.channels[c].muteOnEngage = true ∧
    State.reset.tun.channels[c].state = .off) ∧
  State.reset.tun.engaged = false ∧ State.reset.tun.reference = 4400 ∧
  (∀ i : Fin 8, State.reset.ort.routes[i] = ⟨none, none, 32768, false, true⟩ ∧
    State.reset.ort.owners[i].owner = .fill ∧ State.reset.ort.owners[i].outgoing = none) ∧
  State.reset.ort.panic = false ∧ State.reset.bgv.guardState = .normal ∧ State.reset.bgv.force = false ∧
  State.reset.bgv.recovery = 0 ∧ State.reset.bgv.reading = none

/-- The state right after power-on is safe. -/
def Obligations.ResetIsSafe : Prop := Safe State.reset

/-- No command stops the part, and no command touches the queue of those that wait behind it. That a command whose event has
not fallen due, or that the state does not admit, answers a next state is the model's choice of log entry 10; that
POWER_ON keeps the queue is log entry 32's. -/
def Obligations.EveryCommandCompletesAndKeepsTheQueue : Prop :=
  ∀ (c : Instr) (s : State), ∃ t, exec c s = .next t ∧ t.pending = s.pending

/-- Every step keeps the bounds of the return stack, the tap interval list, the footswitch log, the inbound hold (R88, R103,
R112, R184) and the stages of a context (R5, R63). -/
def Obligations.StepKeepsTheBounds : Prop :=
  ∀ s t : State, Bounded s → step s = .next t → Bounded t

/-- Every step keeps the samples of the pool in their canonical form. -/
def Obligations.StepKeepsThePoolSamplesCanonical : Prop :=
  ∀ s t : State, MemoryOk s → step s = .next t → MemoryOk t

/-- Every step keeps the law of the pool: each of the 48 blocks stands exactly once on the free list or in a block list, and
the free list stands in ascending order (R54). -/
def Obligations.StepKeepsEveryBlockExactlyOnce : Prop :=
  ∀ s t : State, PoolOk s → step s = .next t → PoolOk t

/-- No step makes the outbound queue overflow (R185). -/
def Obligations.StepKeepsTheQueueWithin256Words : Prop :=
  ∀ s t : State, QueueOk s → step s = .next t → QueueOk t

/-- Every step keeps the tempo period in the range of the rate in force (R95). -/
def Obligations.StepKeepsThePeriodInRange : Prop :=
  ∀ s t : State, TempoOk s → step s = .next t → TempoOk t

/-! ### Words and records -/

/-- Every parcel command is read back from the words that carry it, whatever its tag and body (R200, R201). -/
def Obligations.ParcelWordsReadBack : Prop :=
  ∀ (i : Instr) (words : List Word), i.wf = true → i.laneWords = some words → Instr.ofLaneWords words = some i

/-- Every ten words store a record in the ranges of its kind, laid out by Table 11-6, and a record in range is read back from
its own words; a word that its kind does not use is ignored when stored and 0 when read (R202, Table 11-6). Which half of
words 6 to 8 holds the low byte of which FILTER coefficient is the model's reading of log entry 14. -/
def Obligations.StageRecordsReadBack : Prop :=
  (∀ words : List Word, (recordOf words).params.inRange ∧ RecordStored words (recordOf words)) ∧
  (∀ r : StageRecord, (recordWords r).length = 10 ∧ RecordSent r (recordWords r)) ∧
  ∀ r : StageRecord, r.params.inRange → recordOf (recordWords r) = r

/-- A change of any single bit of the checked string changes the check byte (R177). -/
def Obligations.CheckByteShowsEverySingleBit : Prop :=
  ∀ (a b : List Bool), a.length = 280 → b.length = 280 → ∀ i : Nat, i < 280 →
    (∀ j : Nat, j < 280 → ((a.getD j false ≠ b.getD j false) ↔ j = i)) → crcBits a 0 ≠ crcBits b 0

/-- The examples of R177, the words of the *Permit* of R200, and the slot words: a sample survives both slot formats
(R178). A frame takes 304 bits of the line, in the order of Table 11-1, and is read back from them at the position at
which it stands (R167, R199). The hunt ends at the first position that shows sync together with the successive one, at
the second of the two (R168, R174). -/
def Obligations.WorkedWordsOfTheManual : Prop :=
  (checkByte 0 (Vector.replicate 8 0) 0 = 0 ∧ checkByte 0 (Vector.replicate 8 0) 1 = 7 ∧
  checkByte 0 (Vector.replicate 8 0) 2 = 14 ∧ parcelWords (Kind.code .permit) 5 [] = [0xC7C0, 0x0005, 0x383B] ∧
  Instr.ofLaneWords [0xC7C0, 0x0005, 0x383B] = some (.permit 5 [])) ∧
  (∀ (f : SlotFormat) (z : Int), IsSample z → f.sample (f.slotWord z) = z) ∧
  (∀ (f : Frame) (before after : List Bool),
    let line := before ++ frameBits f ++ after
    let at_ (first count : Nat) : List Bool := (line.drop (before.length + first)).take count
    (frameBits f).length = 304 ∧ at_ 0 16 = wordBits (0xE5B0 : BitVec 16) ∧ at_ 16 8 = wordBits f.number ∧
    (∀ i : Fin 8, at_ (24 + 32 * i.val) 32 = wordBits f.slots[i]) ∧ at_ 280 16 = wordBits f.lane ∧
    at_ 296 8 = wordBits f.check ∧ at_ 16 280 = checkedBits f.number f.slots f.lane ∧
    syncAt line before.length = true ∧ frameAt line before.length = f ∧
    lockedCommand line before.length = .frameReceived f) ∧
  ∀ (line : List Bool) (p q : Nat),
    let both (n : Nat) : Prop := syncAt line n = true ∧ syncAt line (n + 304) = true
    (huntFrom line p = some q ↔ ∃ n : Nat, p ≤ n ∧ q = n + 304 ∧ both n ∧ ∀ m : Nat, p ≤ m → m < n → ¬ both m) ∧
    (huntFrom line p = some q → ∀ bound : Nat,
      searchCommand line p = some .enterMeasure ∧
      (q < bound → holdoverCommand line p bound = some (.holdoverReturn (frameAt line q))) ∧
      (bound ≤ q → holdoverCommand line p bound = none)) ∧
    ∀ count : Nat,
      ((∀ k : Nat, 1 ≤ k → k ≤ 64 → syncAt line (p + 304 * k) = true) →
        measureCommand line p count = .measurementComplete count) ∧
      ((∃ k : Nat, 1 ≤ k ∧ k ≤ 64 ∧ syncAt line (p + 304 * k) = false) →
        measureCommand line p count = .measureSyncMissing)

/-! ### The lane: common checks, the hold, the assembler, notices -/

/-- The common checks: a parcel of an unknown kind is answered BAD_KIND, one whose body length does not suit its kind
BAD_LENGTH, before the guard is asked, and a guarded one under show lock without a permit LOCKED; none has an effect but
to consume the permit (R149, R150, R186). -/
def Obligations.CommonChecksComeInTheirOrder : Prop :=
  (∀ (kind : BitVec 6) (tag : Word) (body : List Word) (s : State), unknownCode kind = true → quiet s = true →
    s.lct.hold = [] → queueLength s.lct.queue + 4 ≤ 256 →
    exec (.unknownKind kind tag body) s = .next (enqueue (parcelWords kind tag [word 2]) (consumePermit s))) ∧
  (∀ (k : Kind) (tag : Word) (body : List Word) (s : State), Clear k s → kindAccepts k body.length = false →
    exec (Instr.ofParcel (Kind.code k) tag body) s = .next (replied k tag .badLength [] (consumePermit s))) ∧
  ∀ (k : Kind) (tag : Word) (body : List Word) (s : State), Clear k s → kindAccepts k body.length = true →
    k ∈ [Kind.writeRoute, .writeChainInput, .writeLinkFormat, .writeCurvePoints, .writeCabTaps, .writeSceneHeader,
      .writeSection, .writeStages, .eraseScene, .writeFootswitchLine, .writeTunerChannel, .showLockOff, .restart] →
    s.lct.showLocked = true → s.lct.permit = false →
    exec (Instr.ofParcel (Kind.code k) tag body) s = .next (replied k tag .locked [] (consumePermit s))

/-- Body word j of a kind is a structural index below n: an index out of range is answered RANGE and changes nothing
(R186, R201). -/
def Obligations.BadIndicesAreRefused : Prop :=
  ∀ (k : Kind) (j n : Nat), (k, j, n) ∈ [(Kind.writeChainInput, 0, 4), (.setLiveParameter, 0, 4), (.setStageBypass, 0, 4),
      (.writeCurvePoints, 0, 16), (.writeCurvePoints, 1, 257), (.readCurvePoints, 0, 16), (.readCurvePoints, 1, 257),
      (.writeCabTaps, 0, 8), (.writeCabTaps, 1, 128), (.readCabTaps, 0, 8), (.readCabTaps, 1, 128),
      (.writeSceneHeader, 0, 128), (.writeSection, 0, 128), (.writeSection, 1, 4), (.writeStages, 0, 128),
      (.writeStages, 1, 4), (.writeStages, 2, 12), (.eraseScene, 0, 128), (.readScene, 0, 128), (.readScene, 1, 4),
      (.readScene, 2, 12), (.select, 0, 128), (.call, 0, 128), (.writeFootswitchLine, 0, 8), (.writeTunerChannel, 0, 4),
      (.writeRoute, 0, 8), (.readMailboxes, 0, 17)] →
    ∀ (tag : Word) (body : List Word) (s : State), Clear k s → Admitted k s → kindAccepts k body.length = true →
      n ≤ (body.getD j 0).toNat →
      exec (Instr.ofParcel (Kind.code k) tag body) s = .next (replied k tag .range [] (consumePermit s))

/-- A run of points, taps or records that passes the end of its slot or section is answered RANGE, and a section of an
absent slot ABSENT (R39, R41, R42, R65, R66, R68). -/
def Obligations.OverlongRunsAndAbsentScenesAreRefused : Prop :=
  ∀ (k : Kind) (tag : Word) (body : List Word) (s : State), Clear k s → Admitted k s →
    kindAccepts k body.length = true → (
    (k = .writeCurvePoints → 257 < (body.getD 1 0).toNat + (body.length - 2) →
      exec (.writeCurvePoints tag body) s = .next (replied k tag .range [] (consumePermit s))) ∧
    (k = .writeCabTaps → 128 < (body.getD 1 0).toNat + (body.length - 2) →
      exec (.writeCabTaps tag body) s = .next (replied k tag .range [] (consumePermit s))) ∧
    (k = .readCurvePoints → 257 < (body.getD 1 0).toNat + max 1 (min 48 (body.getD 2 0).toNat) →
      exec (.readCurvePoints tag body) s = .next (replied k tag .range [] (consumePermit s))) ∧
    (k = .readCabTaps → 128 < (body.getD 1 0).toNat + max 1 (min 48 (body.getD 2 0).toNat) →
      exec (.readCabTaps tag body) s = .next (replied k tag .range [] (consumePermit s))) ∧
    (k = .writeStages → 12 < (body.getD 2 0).toNat + (body.length - 3) / 10 →
      exec (.writeStages tag body) s = .next (replied k tag .range [] (consumePermit s))) ∧
    ∀ (n : Fin 128) (c : Fin 4), (body.getD 0 0).toNat = n.val → (body.getD 1 0).toNat = c.val →
      s.scc.scenes[n] = none →
      (k = .writeSection → exec (.writeSection tag body) s = .next (replied k tag .absent [] (consumePermit s))) ∧
      (k = .writeStages → (body.getD 2 0).toNat + (body.length - 3) / 10 ≤ 12 →
        exec (.writeStages tag body) s = .next (replied k tag .absent [] (consumePermit s))) ∧
      (k = .readScene → (body.getD 2 0).toNat < 12 →
        exec (.readScene tag body) s = .next (replied k tag .absent [] (consumePermit s))))

/-- A good parcel that cannot execute at once joins the hold while it keeps fewer than 2, and is discarded with LANE and a
risen overrun counter when it is full (R183, R184). As a lane word leaves, the first held parcel executes if the queue now
has room for its largest reply, and then the second in the same way, each as a parcel of its kind that nothing waits
before; a notice that is due is queued before the word is taken (R184, R185, R192, log entry 41). -/
def Obligations.WaitingParcelsJoinTheHoldOrAreDiscarded : Prop :=
  (∀ (k : Kind) (tag : Word) (body : List Word) (s : State), quiet s = true →
    (s.lct.hold ≠ [] ∨ 256 < queueLength s.lct.queue + kindLargest k) →
    (s.lct.hold.length < 2 → exec (Instr.ofParcel (Kind.code k) tag body) s =
      .next { s with lct := { s.lct with hold := s.lct.hold ++ [{ kind := Kind.code k, tag := tag, body := body }] } }) ∧
    (2 ≤ s.lct.hold.length → exec (Instr.ofParcel (Kind.code k) tag body) s =
      .next { s with lct := { s.lct with
        notices := s.lct.notices ||| 0x40
        counters := { s.lct.counters with overruns := min 65535 (s.lct.counters.overruns + 1) } } })) ∧
  ∀ s : State, [] ∉ s.lct.queue → ∃ n u : State, exec .notice s = .next n ∧
    (laneOut s).1 = n.lct.queue.flatten.headD 0 ∧ u.lct.queue.flatten = n.lct.queue.flatten.drop 1 ∧
    [] ∉ u.lct.queue ∧
    u = { n with lct := { n.lct with queue := u.lct.queue, headSent := u.lct.headSent } } ∧
    (n.lct.queue = [] → u.lct.headSent = n.lct.headSent) ∧
    (∀ first rest, n.lct.queue = first :: rest → (u.lct.headSent = true ↔ 2 ≤ first.length)) ∧
    let runs (p : Parcel) (rest : List Parcel) (a b : State) : Prop :=
      let c : State := { a with lct := { a.lct with hold := rest } }
      b = executeParcel p c ∧ (quiet c = true → rest = [] → exec (Instr.ofParcel p.kind p.tag p.body) c = .next b)
    let fits (p : Parcel) (a : State) : Prop := queueLength a.lct.queue + p.largestReply ≤ 256
    (s.lct.hold = [] → (laneOut s).2 = u) ∧
    ∀ (p : Parcel) (rest : List Parcel), s.lct.hold = p :: rest →
      (¬ fits p u → (laneOut s).2 = u) ∧
      (fits p u → ∃ v : State, runs p rest u v ∧ (rest = [] → (laneOut s).2 = v) ∧
        ∀ (q : Parcel) (more : List Parcel), rest = q :: more →
          (¬ fits q v → (laneOut s).2 = v) ∧ (fits q v → runs q more v (laneOut s).2))

/-- A complete parcel is checked by the sum of its words: a good one is executed or held as the parcel command it
carries, another is discarded with LANE and a risen counter; and a notice lists the pending classes of the mask as the
queue is empty (R181, R183, R192, R200). A class joins the pending set behind a notice that is due (R191, R192, log entry
41). -/
def Obligations.CompleteParcelsAreCheckedAndNoticesQueued : Prop :=
  (∀ (i : Instr) (words : List Word) (s : State), i.wf = true → i.laneWords = some words →
    s.lct.arrived = some words → quiet { s with lct := { s.lct with arrived := none } } = true →
    ∃ t, exec .parcelComplete s = .next t ∧ exec i { s with lct := { s.lct with arrived := none } } = .next t) ∧
  (∀ (words : List Word) (s : State), s.lct.arrived = some words → wordSum words ≠ 0 → ∃ u : State,
    exec .notice s = .next u ∧ exec .parcelComplete s = .next { u with lct := { u.lct with
      arrived := none
      notices := u.lct.notices ||| 0x40
      counters := { s.lct.counters with laneChecks := min 65535 (s.lct.counters.laneChecks + 1) } } }) ∧
  (∀ s : State, s.lct.queue = [] → s.lct.notices &&& s.lct.mask ≠ 0 → exec .notice s = .next { s with lct := { s.lct with
    queue := [parcelWords 63 0 [(s.lct.notices &&& s.lct.mask).setWidth 16]]
    headSent := false
    notices := s.lct.notices &&& ~~~s.lct.mask } }) ∧
  (∀ s : State, (s.lct.queue ≠ [] ∨ s.lct.notices &&& s.lct.mask = 0) → exec .notice s = .next s) ∧
  ([NoticeClass.link, .scene, .foot, .tuner, .govern, .supply, .lane, .beat].map NoticeClass.bit =
    [0x01, 0x02, 0x04, 0x08, 0x10, 0x20, 0x40, 0x80]) ∧
  ∀ (k : NoticeClass) (s : State), ∃ u : State, exec .notice s = .next u ∧
    raise k s = { u with lct := { u.lct with notices := u.lct.notices ||| k.bit } }

/-- *Write Link Format* sets both formats and nothing else (R178); *Read Notices*, *Write Notice Mask* and *Read
Counters* answer what they read or store (R193, R195). -/
def Obligations.FormatNoticeAndCounterParcels : Prop :=
  (∀ (tag i o : Word) (s : State), Clear .writeLinkFormat s → Admitted .writeLinkFormat s →
    let f : SlotFormat := if i.toNat = 0 then .left else .right
    let g : SlotFormat := if o.toNat = 0 then .left else .right
    exec (.writeLinkFormat tag [i, o]) s = .next (replied .writeLinkFormat tag .ok [word f.code, word g.code]
      { consumePermit s with lif := { s.lif with inFormat := f, outFormat := g } })) ∧
  (∀ (tag : Word) (s : State), Clear .readNotices s → exec (.readNotices tag []) s =
    .next (replied .readNotices tag .ok [s.lct.notices.setWidth 16]
      { s with lct := { s.lct with permit := false, notices := 0 } })) ∧
  (∀ (tag mask : Word) (s : State), Clear .writeNoticeMask s → exec (.writeNoticeMask tag [mask]) s =
    .next (replied .writeNoticeMask tag .ok [mask &&& 0xFF]
      { s with lct := { s.lct with permit := false, mask := mask.setWidth 8 } })) ∧
  ∀ (tag flag : Word) (s : State), Clear .readCounters s →
    let c := s.lct.counters
    exec (.readCounters tag [flag]) s = .next (replied .readCounters tag .ok
      ([c.laneChecks, c.overruns, c.noise, c.frameChecks, c.slips, c.losses, c.unsupported, c.superseded,
        c.logOverflows].map word)
      { s with lct := { s.lct with
        permit := false
        counters := if flag.getLsbD 0 then ⟨0, 0, 0, 0, 0, 0, 0, 0, 0⟩ else c } })

/-- *Read Mailboxes* answers the run it names, shortened at the top, with flags and records as they stood; it clears the
run's fresh flags, the peaks of its meters, and the governor's counts of dips and cuts, and leaves the mailboxes outside
the run and every record but those as they stood (R144, R162, R190, R203). The bits of the two fresh-flag words beyond the run
are 0 (R203). Each record has the layout of Table 11-7, whose unassigned bits, like those of the run word, are 0 by log
entry 9. -/
def Obligations.ReadMailboxesAnswersAndClearsTheRun : Prop :=
  ∀ (tag : Word) (first : Fin 17) (count : Word) (s : State), Clear .readMailboxes s →
    let n := max 1 (min 17 count.toNat)
    let inRun (i : Nat) : Prop := first.val ≤ i ∧ i < first.val + n
    ∃ (data : List Word) (t : State),
      exec (.readMailboxes tag [word first.val, count]) s = .next (replied .readMailboxes tag .ok data t) ∧
      data.take 1 = [word (first.val + 256 * min n (17 - first.val))] ∧
      (∀ (j : Nat) (h : first.val + j < 17), j < n → j < 16 →
        (data.getD 1 0).getLsbD j = s.lct.boxes.fresh ⟨first.val + j, h⟩) ∧
      (first.val + 16 < 17 → 16 < n → (data.getD 2 0).getLsbD 0 = s.lct.boxes.fresh 16) ∧
      (∀ j : Nat, j < 16 → ¬ (j < n ∧ first.val + j < 17) → (data.getD 1 0).getLsbD j = false) ∧
      (∀ j : Nat, j < 16 → ¬ (j = 0 ∧ first.val = 0 ∧ n = 17) → (data.getD 2 0).getLsbD j = false) ∧
      data.drop 3 = (((List.finRange 17).drop first.val).take n).flatMap s.lct.boxes.words ∧
      (∀ i : Fin 17, inRun i.val → t.lct.boxes.fresh i = false) ∧
      (∀ i : Fin 17, ¬ inRun i.val →
        t.lct.boxes.fresh i = s.lct.boxes.fresh i ∧ t.lct.boxes.words i = s.lct.boxes.words i) ∧
      (∀ i : Fin 17, i.val ≠ 5 → i.val < 9 → t.lct.boxes.words i = s.lct.boxes.words i) ∧
      (∀ c : Fin 4, t.lct.boxes.tuner[c].record = s.lct.boxes.tuner[c].record) ∧
      t.lct.boxes.tempo.record = s.lct.boxes.tempo.record ∧ t.lct.boxes.scene.record = s.lct.boxes.scene.record ∧
      t.lct.boxes.link.record = s.lct.boxes.link.record ∧ t.lct.boxes.supply.record = s.lct.boxes.supply.record ∧
      (∀ i : Fin 8, inRun (9 + i.val) → t.lct.boxes.meters[i] = ⟨0, false⟩) ∧
      (∀ i : Fin 8, ¬ inRun (9 + i.val) → t.lct.boxes.meters[i] = s.lct.boxes.meters[i]) ∧
      MailboxesLaidOut s.lct.boxes ∧
      (inRun 5 → t.bgv = { s.bgv with dips := 0, cuts := 0 } ∧
        t.lct.boxes.governor = ⟨{ s.lct.boxes.governor.record with dips := 0, cuts := 0 }, false⟩) ∧
      (¬ inRun 5 → t.bgv = s.bgv ∧ t.lct.boxes.governor = s.lct.boxes.governor) ∧
      t.lct = { s.lct with permit := false, boxes := t.lct.boxes } ∧ t.lif = s.lif ∧ t.chp = s.chp ∧ t.dpl = s.dpl ∧ t.scc = s.scc ∧
      t.tfu = s.tfu ∧ t.tun = s.tun ∧ t.ort = s.ort ∧ t.pending = s.pending

/-- *Identify* answers its three fixed values in any state of the show lock, and changes nothing but the permit it
consumes (R196). -/
def Obligations.IdentifyAnswersThreeFixedValues : Prop :=
  kindGuarded .identify = false ∧ ∀ (tag : Word) (body : List Word) (s : State), Clear .identify s →
    (body = [] → exec (.identify tag body) s =
      .next (replied .identify tag .ok [0x0D5E, 0x04C1, 0x0001] { s with lct := { s.lct with permit := false } })) ∧
    (body ≠ [] → exec (.identify tag body) s =
      .next (replied .identify tag .badLength [] { s with lct := { s.lct with permit := false } }))

/-- *Restart* answers OK, takes every context to IDLE and every fade to NONE, ends an unswitched change and a pending
request ABORTED, empties the stack, the tap list, the log and the pending notice set, clears the engaged flag with every
channel's measurement state, and keeps every stored table, the tempo, the guard, the routes, the owners, the link record,
the lock state, the mask, the counters and the hold (R91, R103, R112, R131, R154, R197). Of the classes only those that
its own actions set stand: SCENE, TUNER where a channel leaves READY, and GOVERN where an evaluation in SEARCH or MEASURE
changes a mark. What an IDLE context holds is log entry 3's, F and k of a fade at NONE log entry 4's, and the measurement
state of a channel that does not measure log entry 39's. That in SEARCH or MEASURE one evaluation follows for all the
contexts that go to IDLE, with the dips, the cuts and GOVERN as that one leaves them, is the model's choice of log entry
21, and that the reply is in the queue before these classes join, so that no notice comes before it, log entry 41's. -/
def Obligations.RestartReturnsRunningStateToItsStart : Prop :=
  ∀ (tag : Word) (s : State), Clear .restart s → Admitted .restart s →
    ∃ t : State, exec (.restart tag []) s = .next (replied .restart tag .ok [] t) ∧
      (∀ (c : Fin 4) (x : Fin 2), t.scc.ctx c x = Ctx.empty) ∧ (∀ c : Fin 4, t.scc.fades[c] = Fade.rest) ∧
      Aborted s t ∧ t.scc.stack = [] ∧ t.scc.live = none ∧
      t.lct.boxes.scene = ⟨⟨none, .idle, none, none, t.scc.last, 0⟩, true⟩ ∧
      (PoolOk s → t.dpl.free = List.range 48) ∧ t.dpl.mem = s.dpl.mem ∧
      t.tfu = { s.tfu with taps := [], previousTap := none, log := [] } ∧
      t.tun.engaged = false ∧ t.tun.reference = s.tun.reference ∧
      (∀ c : Fin 4, ChannelReported s t c ∧ t.tun.channels[c] = { s.tun.channels[c] with
        state := if s.tun.channels[c].mode = .always then .settling else .off
        measure := Measure.empty }) ∧
      t.scc.scenes = s.scc.scenes ∧ t.chp = s.chp ∧ t.ort = s.ort ∧ t.lif = s.lif ∧ t.pending = s.pending ∧
      (let moved : Prop := ∃ (c : Fin 4) (x : Fin 2), (s.scc.ctx c x).state ≠ .idle
      let at_once : Prop := s.lif.state.processing = false ∧ moved
      let remarked : Bool := s.bgv.halvings ≠ 0 || s.bgv.sheds ≠ 0 || s.bgv.bypass ≠ Vector.replicate 4 false
      let ready : Bool := chains.any fun c => s.tun.channels[c].state = .ready
      (s.lif.state.processing = true → moved → t.bgv = { s.bgv with evaluate := true }) ∧ (¬ moved → t.bgv = s.bgv) ∧
      (at_once → t.bgv = { s.bgv with
          bypass := Vector.replicate 4 false, halvings := 0, sheds := 0, dips := min 255 s.bgv.dips
          cuts := min 255 s.bgv.cuts, requestedDemand := 0, demand := 0, evaluate := false } ∧
        t.lct.boxes.governor = ⟨governorRecord t, true⟩ ∧
        t.lct.notices = 0x02 ||| (if ready then 0x08 else 0) ||| (if remarked then 0x10 else 0)) ∧
      (¬ at_once → t.lct.boxes.governor = s.lct.boxes.governor ∧
        t.lct.notices = 0x02 ||| if ready then 0x08 else 0)) ∧
      t.lct = { s.lct with permit := false, notices := t.lct.notices, boxes := t.lct.boxes } ∧
      t.lct.boxes.tempo = s.lct.boxes.tempo ∧ t.lct.boxes.link = s.lct.boxes.link ∧
      t.lct.boxes.supply = s.lct.boxes.supply ∧ t.lct.boxes.meters = s.lct.boxes.meters

/-! ### Show lock -/

/-- *Show Lock On* and *Permit*: the lock state, the one permit, and the answer (R146, R148, R149). That the answer is 1 for
LOCKED and 0 for UNLOCKED is log entry 13's (DEDUCED). -/
def Obligations.LockAndPermitParcels : Prop :=
  ∀ (tag : Word) (s : State),
    (Clear .showLockOn s → exec (.showLockOn tag []) s = .next (replied .showLockOn tag .ok [1]
      { s with lct := { s.lct with showLocked := true, permit := false } })) ∧
    (Clear .permit s → exec (.permit tag []) s = .next (replied .permit tag .ok [if s.lct.showLocked then 1 else 0]
      { s with lct := { s.lct with permit := true } }))

/-- *Show Lock Off* unlocks an unlocked part, and a locked one under a permit, which it consumes; it is refused with
LOCKED without one (R147). That the answer is 0 for UNLOCKED is log entry 13's (DEDUCED). -/
def Obligations.ShowLockOffNeedsAPermitWhileLocked : Prop :=
  ∀ (tag : Word) (s : State), Clear .showLockOff s →
    ((s.lct.showLocked = false ∨ s.lct.permit = true) → exec (.showLockOff tag []) s =
      .next (replied .showLockOff tag .ok [0] { s with lct := { s.lct with showLocked := false, permit := false } })) ∧
    (s.lct.showLocked = true → s.lct.permit = false →
      exec (.showLockOff tag []) s = .next (replied .showLockOff tag .locked [] s))

/-- Nothing but POWER_ON, at once, takes a locked part out of show lock while no permit is held and no parcel waits: every
table that only guarded parcels write stands, whatever the command (R146, R148, R150, R151). -/
def Obligations.ShowLockProtectsTheTables : Prop :=
  ∀ (c : Instr) (s : State), c ≠ .powerOn → s.lct.showLocked = true → s.lct.permit = false → s.lct.hold = [] →
    s.lct.arrived = none → ∃ t, exec c s = .next t ∧ SameTables s t ∧ t.lct.showLocked = true

/-! ### Chains, stages and the store -/

/-- *Write Chain Input* replaces the chain's record, each value clamped, and nothing else (R3). The chain input sample of a
frame is the source slot's sample times 2^trim, negated if the record says so, saturated (R2). -/
def Obligations.WriteChainInputReplacesTheRecord : Prop :=
  (∀ (tag : Word) (c : Fin 4) (slot trim invert : Word) (s : State), Clear .writeChainInput s →
    Admitted .writeChainInput s → ∃ r : ChainInput, r.source.val = min 7 slot.toNat ∧ r.trim.val = min 3 trim.toNat ∧
      r.invert = invert.getLsbD 0 ∧
      exec (.writeChainInput tag [word c.val, slot, trim, invert]) s = .next (replied .writeChainInput tag .ok []
        { consumePermit s with chp := { s.chp with inputs := upd s.chp.inputs c r } })) ∧
  ∀ (inbound : Vector Int 8) (s : State) (c : Fin 4),
    let z := inbound[s.chp.inputs[c].source] * 2 ^ s.chp.inputs[c].trim.val
    (chainInputs s.chp.inputs inbound)[c] = max (-8388608) (min 8388607 (if s.chp.inputs[c].invert then -z else z))

/-- *Set Live Parameter* writes the clamped value into the named stage of the LIVE context, answers it, and marks an
evaluation; it is refused with RANGE where there is no such stage or parameter (R24). Of the stage its parameters alone
change, and its processing state stands, but that a new hold time takes down the hold count of a gate in HOLD that stands
above it (R25, Table 1-6). *Set Stage Bypass* writes the bypass flag there, under the same checks (R26). Frames are being
processed. -/
def Obligations.LiveEditsReachTheLiveContext : Prop :=
  let holdAfter (st : Stage) (number : Nat) (params : StageParams) : Nat :=
    match params with
    | .gate _ _ h => if number = 2 ∧ st.proc.gate.state = .held then min st.proc.gate.holdCount h
      else st.proc.gate.holdCount
    | _ => st.proc.gate.holdCount
  (∀ (tag : Word) (c : Fin 4) (i number high low : Word) (s : State), Clear .setLiveParameter s →
    s.lif.state.processing = true →
    let run := exec (.setLiveParameter tag [word c.val, i, number, high, low]) s
    (liveCtx s.scc.ctxs[c] = none → run = .next (replied .setLiveParameter tag .range [] (consumePermit s))) ∧
    ∀ x : Fin 2, liveCtx s.scc.ctxs[c] = some x →
      ((s.scc.ctx c x).stages.length ≤ i.toNat →
        run = .next (replied .setLiveParameter tag .range [] (consumePermit s))) ∧
      ∀ st : Stage, (s.scc.ctx c x).stages[i.toNat]? = some st →
        (editParam st.record.params number.toNat (high ++ low : BitVec 32).toInt = none →
          run = .next (replied .setLiveParameter tag .range [] (consumePermit s))) ∧
        ∀ e : ParamEdit, editParam st.record.params number.toNat (high ++ low : BitVec 32).toInt = some e →
          run = .next (replied .setLiveParameter tag .ok (twoWords e.stored) (markEvaluation
            (putCtx c x { s.scc.ctx c x with stages := (s.scc.ctx c x).stages.modify i.toNat (fun _ =>
              { st with
                record := { st.record with params := e.params }
                proc := { st.proc with gate := { st.proc.gate with holdCount := holdAfter st number.toNat e.params } } })
              } (consumePermit s))))) ∧
  (∀ (tag : Word) (c : Fin 4) (i on : Word) (x : Fin 2) (st : Stage) (s : State), Clear .setStageBypass s →
    s.lif.state.processing = true → liveCtx s.scc.ctxs[c] = some x →
    (s.scc.ctx c x).stages[i.toNat]? = some st →
    exec (.setStageBypass tag [word c.val, i, on]) s = .next (replied .setStageBypass tag .ok [flagWord (on.getLsbD 0)]
      (markEvaluation (putCtx c x { s.scc.ctx c x with
        stages := (s.scc.ctx c x).stages.modify i.toNat
          (fun _ => { st with record := { st.record with bypass := on.getLsbD 0 } }) } (consumePermit s))))) ∧
  ∀ (tag : Word) (c : Fin 4) (i on : Word) (s : State), Clear .setStageBypass s →
    (∀ x : Fin 2, liveCtx s.scc.ctxs[c] = some x → (s.scc.ctx c x).stages.length ≤ i.toNat) →
    exec (.setStageBypass tag [word c.val, i, on]) s = .next (replied .setStageBypass tag .range [] (consumePermit s))

/-- A live edit stores the value clamped to the range of the parameter, in that parameter alone, and answers it as stored,
for every parameter of every kind (Table 11-6); codes are taken as R201 lays them out. The maximum length and the spill
flag of a DELAY are load-time parameters and not edited, nor is a number that names none (R24, R52). A record in range
stays in range and keeps its kind. -/
def Obligations.LiveEditsClampToTheRangeOfTheParameter : Prop :=
  (∀ (p : StageParams) (number : Nat) (v : Int) (e : ParamEdit), p.inRange → editParam p number v = some e →
    e.params.inRange ∧ e.params.kind = p.kind) ∧
  ∀ v : Int,
    let within (low high : Int) : Int := max low (min high v)
    let stores (p : StageParams) (number : Nat) (z : Int) (q : StageParams) : Prop := editParam p number v = some ⟨q, z⟩
    let only (p : StageParams) (n : Nat) : Prop := ∀ number : Nat, n ≤ number → editParam p number v = none
    let division (z : Int) : Division := if z = 0 then .half else if z = 1 then .quarter else if z = 2 then .dottedEighth
      else if z = 3 then .quarterTriplet else if z = 4 then .eighth else .sixteenth
    (∀ g : Nat, stores (.trim g) 0 (within 0 32767) (.trim (within 0 32767).toNat) ∧ only (.trim g) 1) ∧
    (∀ lo lcl h : Nat, let p := StageParams.gate lo lcl h
      stores p 0 (within 0 8388607) (.gate (within 0 8388607).toNat lcl h) ∧
      stores p 1 (within 0 8388607) (.gate lo (within 0 8388607).toNat h) ∧
      stores p 2 (within 0 65535) (.gate lo lcl (within 0 65535).toNat) ∧ only p 3) ∧
    (∀ b0 b1 b2 a1 a2 : Int, let p := StageParams.filter b0 b1 b2 a1 a2
      let z := within (-8388608) 8388607
      stores p 0 z (.filter z b1 b2 a1 a2) ∧ stores p 1 z (.filter b0 z b2 a1 a2) ∧
      stores p 2 z (.filter b0 b1 z a1 a2) ∧ stores p 3 z (.filter b0 b1 b2 z a2) ∧
      stores p 4 z (.filter b0 b1 b2 a1 z) ∧ only p 5) ∧
    (∀ (depth : Nat) (mode : RateMode) (period : Nat) (d : Division), let p := StageParams.tremolo depth mode period d
      stores p 0 (within 0 256) (.tremolo (within 0 256).toNat mode period d) ∧
      stores p 1 (within 0 1) (.tremolo depth (if within 0 1 = 0 then .free else .sync) period d) ∧
      stores p 2 (within 480 96000) (.tremolo depth mode (within 480 96000).toNat d) ∧
      stores p 3 (within 0 5) (.tremolo depth mode period (division (within 0 5))) ∧ only p 4) ∧
    (∀ (drive : Nat) (curve : Fin 16) (code : Fin 4) (level : Nat), let p := StageParams.shaper drive curve code level
      stores p 0 (within 256 16384) (.shaper (within 256 16384).toNat curve code level) ∧
      (∃ k : Fin 16, (k.val : Int) = within 0 15 ∧ stores p 1 (within 0 15) (.shaper drive k code level)) ∧
      (∃ k : Fin 4, (k.val : Int) = within 0 3 ∧ stores p 2 (within 0 3) (.shaper drive curve k level)) ∧
      stores p 3 (within 0 65535) (.shaper drive curve code (within 0 65535).toNat) ∧ only p 4) ∧
    (∀ (slot : Fin 8) (taps : Nat), let p := StageParams.cab slot taps
      (∃ k : Fin 8, (k.val : Int) = within 0 7 ∧ stores p 0 (within 0 7) (.cab k taps)) ∧
      stores p 1 (within 1 128) (.cab slot (within 1 128).toNat) ∧ only p 2) ∧
    ∀ d : DelayParams, let p := StageParams.delay d
      editParam p 0 v = none ∧ editParam p 6 v = none ∧ only p 8 ∧
      stores p 1 (within 0 1) (.delay { d with mode := if within 0 1 = 0 then .fixed else .sync }) ∧
      stores p 2 (within 1 131072) (.delay { d with fixedLength := (within 1 131072).toNat }) ∧
      stores p 3 (within 0 5) (.delay { d with division := division (within 0 5) }) ∧
      stores p 4 (within 0 31130) (.delay { d with feedback := (within 0 31130).toNat }) ∧
      stores p 5 (within 0 32767) (.delay { d with wet := (within 0 32767).toNat }) ∧
      stores p 7 (within 1 4095) (.delay { d with spillLimit := (within 1 4095).toNat })

/-- A TRIM stage that computes multiplies by its gain, in units of 1/4096, and keeps no processing state; its gain is
stored clamped to 0 to 32,767 (R9). -/
def Obligations.TrimMultipliesByItsGain : Prop :=
  (∀ (words : List Word) (g : Nat), (recordOf words).params = .trim g → g ≤ 32767) ∧
  ∀ (env : FrameInputs) (st : Stage) (g : Nat) (x : Int) (mem : List (Nat × Int)), st.record.params = .trim g →
    st.computes = true →
    runStage env st x mem = { stage := st, out := saturate ((x * g + 2048) / 4096), mem := mem } ∧
    (g = 0 → (runStage env st x mem).out = 0) ∧ (g = 4096 → IsSample x → (runStage env st x mem).out = x)

/-- A stage that is bypassed or shed passes its input unchanged, costs no work units and holds its processing state, from
which it resumes (R6). A stage that computes follows the arithmetic of its kind: GATE (R10 to R13), FILTER (R14), TREMOLO
(R15 to R18), SHAPER (R27 to R32) and CAB (R36, R37); TRIM and DELAY have statements of their own. -/
def Obligations.BypassedAndShedStagesPassTheirInput : Prop :=
  ∀ (env : FrameInputs) (st : Stage) (x : Int) (mem : List (Nat × Int)),
    ((st.record.bypass = true ∨ st.shed = true) →
      runStage env st x mem = { stage := st, out := x, mem := mem } ∧ st.cost = 0) ∧
    (st.record.bypass = false → st.shed = false → runStage env st x mem = computeStage env st x mem ∧
      (computeStage env st x mem).stage.record = st.record ∧ (computeStage env st x mem).stage.blocks = st.blocks) ∧
    (∀ bypass : Bool, (st.setBypass bypass).proc = st.proc ∧ st.setShed.proc = st.proc ∧ st.atRequest.proc = st.proc) ∧
    let sat (a : Int) : Int := max (-8388608) (min 8388607 a)
    let gives (proc : Proc) (out : Int) : Prop :=
      computeStage env st x mem = { stage := { st with proc := proc }, out := out, mem := mem }
    (∀ openLevel closeLevel holdTime : Nat, st.record.params = .gate openLevel closeLevel holdTime →
      let g := st.proc.gate
      let e := if g.envelope < x.natAbs then x.natAbs else g.envelope - g.envelope / 256
      let close := min closeLevel openLevel
      let enters (state : GateState) (count gain : Nat) : Prop :=
        gives { st.proc with gate := ⟨e, state, count, gain⟩ } (sat ((x * gain + 128) / 256))
      let up := min 256 (g.gain + 16)
      let down := g.gain - 1
      (g.state = .closed → openLevel ≤ e → enters .opened g.holdCount up) ∧
      (g.state = .closed → e < openLevel → enters .closed g.holdCount down) ∧
      (g.state = .opened → close ≤ e → enters .opened g.holdCount up) ∧
      (g.state = .opened → e < close → 0 < holdTime → enters .held holdTime up) ∧
      (g.state = .opened → e < close → holdTime = 0 → enters .closed g.holdCount down) ∧
      (g.state = .held → openLevel ≤ e → enters .opened g.holdCount up) ∧
      (g.state = .held → e < openLevel → 1 < g.holdCount → enters .held (g.holdCount - 1) up) ∧
      (g.state = .held → e < openLevel → g.holdCount ≤ 1 → enters .closed 0 down)) ∧
    (∀ b0 b1 b2 a1 a2 : Int, st.record.params = .filter b0 b1 b2 a1 a2 →
      let f := st.proc.filter
      let y := sat ((b0 * x + b1 * f.x1 + b2 * f.x2 - a1 * f.y1 - a2 * f.y2 + 2097152) / 4194304)
      gives { st.proc with filter := ⟨x, f.x1, y, f.y1⟩ } y) ∧
    (∀ (depth : Nat) (mode : RateMode) (period : Nat) (d : Division), st.record.params = .tremolo depth mode period d →
      let gain (phase : Nat) : Nat :=
        65536 - depth * (if phase < 32768 then 2 * phase else 2 * (65535 - phase)) / 256
      let out (phase : Nat) : Int := sat ((x * gain phase + 32768) / 65536)
      let length := env.clock.period * d.ratio.1 / d.ratio.2
      (mode = .free → gives
        { st.proc with phase := (st.proc.phase + (4294967296 + period / 2) / period) % 4294967296 }
        (out (st.proc.phase / 65536))) ∧
      (mode = .sync → gives st.proc
        (out (65536 * ((env.clock.group * env.clock.period + env.clock.phase) % length) / length)))) ∧
    (∀ (drive : Nat) (slot : Fin 16) (code : Fin 4) (level : Nat), st.record.params = .shaper drive slot code level →
      let points := env.curves[slot].live.toList
      let n := 2 ^ st.effective.val
      let value := sat ((x * drive + 128) / 256)
      let sub (k : Nat) : Int := st.proc.previous + ((value - st.proc.previous) * k + (n / 2 : Nat)) / (n : Int)
      let look (z : Int) : Int :=
        let i := (z + 8388608).toNat / 65536
        let f := (z + 8388608).toNat % 65536
        points.getD i 0 + ((points.getD (i + 1) 0 - points.getD i 0) * f + 32768) / 65536
      let average := ((∑ k ∈ Finset.range n, look (sub (k + 1))) + (n / 2 : Nat)) / (n : Int)
      gives { st.proc with previous := value } (sat ((average * level + 16384) / 32768))) ∧
    ∀ (slot : Fin 8) (taps : Nat), st.record.params = .cab slot taps →
      let inputs := x :: st.proc.history
      gives { st.proc with history := inputs.take 127 }
        (sat (((∑ j ∈ Finset.range taps, env.cabs[slot].live.toList.getD j 0 * inputs.getD j 0) + 4194304) / 8388608))

/-- Pan never raises a side, and every crossfade and dip output is the weighted mean of R83 and R84, rounded half up, and
lies between the samples it mixes; the first frame of a fade is the outgoing sample and its end the incoming one (R19, R83,
R84). A governor-bypassed chain puts its input sample on both sides and runs no context (R23). In any other chain the two
contexts are stepped one after the other, a full-list one through its stages in index order and then its pan (R5, R19);
the main pair is formed by the fade (R20), the output pair is the saturated sum of it and the tails (R21), and a chain
without a running context hands nothing (R22). A fade's position rises by 1 in every frame (R83). A frame takes the four
chains in turn; that order, and context 0 before context 1, is the model's choice of log entry 31. -/
def Obligations.MixingStaysBetweenTheSamples : Prop :=
  (∀ (pan y : Int), -64 ≤ pan → pan ≤ 64 → IsSample y →
    (0 ≤ pan → panPair pan y = ((y * (64 - pan) + 32) / 64, y)) ∧
    (pan < 0 → panPair pan y = (y, (y * (64 + pan) + 32) / 64)) ∧
    |(panPair pan y).1| ≤ |y| ∧ |(panPair pan y).2| ≤ |y|) ∧
  (∀ (e k : Nat) (o w : Int), 6 ≤ e → k ≤ 2 ^ e →
    crossfade (2 ^ e) k o w = (o * (2 ^ e - k) + w * k + 2 ^ (e - 1)) / 2 ^ e ∧
    min o w ≤ crossfade (2 ^ e) k o w ∧ crossfade (2 ^ e) k o w ≤ max o w ∧
      crossfade (2 ^ e) 0 o w = o ∧ crossfade (2 ^ e) (2 ^ e) o w = w) ∧
  (∀ (k : Nat) (o w : Int), k < 64 →
    (k < 32 → dipMix k o w = (o * (32 - k) + 16) / 32 ∧ min 0 o ≤ dipMix k o w ∧ dipMix k o w ≤ max 0 o) ∧
    (32 ≤ k → dipMix k o w = (w * (k - 32) + 16) / 32 ∧ min 0 w ≤ dipMix k o w ∧ dipMix k o w ≤ max 0 w) ∧
    dipMix 0 o w = o ∧ dipMix 32 o w = 0 ∧ dipMix 64 o w = w) ∧
  (∀ (env : FrameInputs) (bypass : Vector Bool 4) (inputs : Vector Int 4) (r : ChainsRun) (c : Fin 4),
    let t := chainFrame env bypass inputs r c
    let k := r.ctxs[c][(0 : Fin 2)]
    let l := r.ctxs[c][(1 : Fin 2)]
    let counted (m : Ctx) : Ctx := if m.state = .loading then { m with loadCount := m.loadCount + 1 } else m
    (∀ d : Fin 4, d ≠ c → t.ctxs[d] = r.ctxs[d] ∧ t.fades[d] = r.fades[d] ∧ t.outputs[d] = r.outputs[d]) ∧
    (r.fades[c].kind = .none → t.fades[c] = r.fades[c]) ∧
    (r.fades[c].kind ≠ .none → t.fades[c] = { r.fades[c] with k := r.fades[c].k + 1 }) ∧
    (bypass[c] = true → t.outputs[c] = some (inputs[c], inputs[c]) ∧ t.mem = r.mem ∧
      t.ctxs[c][(0 : Fin 2)] = counted k ∧ t.ctxs[c][(1 : Fin 2)] = counted l) ∧
    (bypass[c] = false → ∃ f g : CtxFrame, ContextStepped env r.fades[c] inputs[c] k r.mem f ∧
      ContextStepped env r.fades[c] inputs[c] l f.mem g ∧
      t.ctxs[c][(0 : Fin 2)] = f.ctx ∧ t.ctxs[c][(1 : Fin 2)] = g.ctx ∧ t.mem = g.mem ∧
      PairsSummed r.fades[c] k l f g t.outputs[c])) ∧
  ∀ (inbound : Vector Int 8) (s : State),
    let chain := chainFrame ⟨⟨s.tfu.period, s.tfu.phase, s.tfu.group⟩, s.chp.curves, s.chp.cabs⟩ s.bgv.bypass
      (chainInputs s.chp.inputs inbound)
    chainsRun inbound s = chain (chain (chain (chain ⟨s.scc.ctxs, s.scc.fades, s.dpl.mem, s.chp.outputs⟩ 0) 1) 2) 3

/-- A DELAY stage in a full-list context, in FIXED mode at a settled read length L and from a zeroed line, puts out its input
plus the wet share of the line input of L frames before, where the line input is the input plus the feedback share; it is
silent for its first L frames, whatever its blocks held (R46, R49, R50). In either mode the read length of a frame glides
by at most 2 toward the target: Lf, or the length of the division at the tempo period, clamped to 1 and the smaller of the
maximum length and the capacity (R46, R47, R48); at that length the stage reads its line, or 0 where the line has not been
written so far back, puts out its output, and writes its line input (R46, R49, R50). -/
def Obligations.DelayLinesReturnTheirInputAfterTheReadLength : Prop :=
  (∀ (p : DelayParams) (st : Stage) (period length : Nat) (mem : List (Nat × Int)) (inputs : List Int),
    p.mode = .fixed → p.fixedLength = length → 1 ≤ length → length ≤ p.maxLength →
    length ≤ 4096 * st.blocks.length → st.blocks.Nodup → st.proc.line.fill = 0 →
    st.proc.line.writePos < 4096 * st.blocks.length → st.proc.line.readLength = some length →
    Memory.wf mem = true →
    ∃ u : Nat → Int, ∀ n : Nat, n < inputs.length →
      let d := if length ≤ n then u (n - length) else 0
      u n = saturate (inputs.getD n 0 + roundDiv (p.feedback * d) 32768) ∧
      (delayOutputs p period inputs st mem)[n]? = some (saturate (inputs.getD n 0 + roundDiv (p.wet * d) 32768))) ∧
  ∀ (p : DelayParams) (st : Stage) (current : Nat) (env : FrameInputs) (x : Int) (mem : List (Nat × Int)),
    st.record.params = .delay p → st.record.bypass = false → st.shed = false →
    st.proc.line.readLength = some current →
    let line := st.proc.line
    let size := 4096 * st.blocks.length
    let at_ (q : Nat) : Nat := 4096 * st.blocks.getD (q / 4096) 0 + q % 4096
    let period := env.clock.period
    let wanted := if p.mode = .fixed then p.fixedLength
      else match p.division with
        | .half => 2 * period
        | .quarter => period
        | .dottedEighth => 3 * period / 4
        | .quarterTriplet => 2 * period / 3
        | .eighth => period / 2
        | .sixteenth => period / 4
    let target := max 1 (min (min p.maxLength size) wanted)
    let length := frameLength p st.blocks period line
    let d := if line.fill < length then 0 else memRead mem (at_ ((line.writePos + size - length) % size))
    (current < target → length = min target (current + 2)) ∧ (target < current → length = max target (current - 2)) ∧
    (current = target → length = current) ∧
    runStage env st x mem =
      ⟨{ st with proc := { st.proc with line :=
          ⟨min size (line.fill + 1), (line.writePos + 1) % size, some length⟩ } },
        saturate (x + (p.wet * d + 16384) / 32768),
        memWrite mem (at_ line.writePos) (saturate (x + (p.feedback * d + 16384) / 32768))⟩

/-- *Write Curve Points* and *Write Cab Taps* store their points in the shadow from the first index up, and copy the
whole shadow into the live copy exactly when the run includes the last point, 256 of a curve or 127 of a cabinet (R39,
R40, R41). -/
def Obligations.WritingTheStoreFillsTheShadowAndCommits : Prop :=
  (∀ (tag : Word) (k : Fin 16) (first : Nat) (points : List Word) (s : State), 1 ≤ points.length → points.length ≤ 48 →
    first + points.length ≤ 257 → Clear .writeCurvePoints s → Admitted .writeCurvePoints s →
    ∃ slot : CurveSlot,
      (∀ j : Fin 257, slot.shadow[j] = if first ≤ j.val ∧ j.val < first + points.length
        then pointOf (points.getD (j.val - first) 0) else s.chp.curves[k].shadow[j]) ∧
      slot.live = (if first + points.length = 257 then slot.shadow else s.chp.curves[k].live) ∧
      exec (.writeCurvePoints tag (word k.val :: word first :: points)) s =
        .next (replied .writeCurvePoints tag .ok [flagWord (first + points.length = 257)]
          { consumePermit s with chp := { s.chp with curves := upd s.chp.curves k slot } })) ∧
  ∀ (tag : Word) (k : Fin 8) (first : Nat) (points : List Word) (s : State), 1 ≤ points.length → points.length ≤ 48 →
    first + points.length ≤ 128 → Clear .writeCabTaps s → Admitted .writeCabTaps s →
    ∃ slot : CabSlot,
      (∀ j : Fin 128, slot.shadow[j] = if first ≤ j.val ∧ j.val < first + points.length
        then pointOf (points.getD (j.val - first) 0) else s.chp.cabs[k].shadow[j]) ∧
      slot.live = (if first + points.length = 128 then slot.shadow else s.chp.cabs[k].live) ∧
      exec (.writeCabTaps tag (word k.val :: word first :: points)) s =
        .next (replied .writeCabTaps tag .ok [flagWord (first + points.length = 128)]
          { consumePermit s with chp := { s.chp with cabs := upd s.chp.cabs k slot } })

/-- *Read Curve Points* and *Read Cab Taps* answer the run of the live copy and change nothing (R42), and
every value that a write of the store can carry reads back as the word that gave it (R201). -/
def Obligations.ReadingTheStoreAnswersTheLiveCopy : Prop :=
  (∀ w : Word, IsSample (pointOf w) ∧ pointWord (pointOf w) = w) ∧
  (∀ (tag : Word) (k : Fin 16) (first count : Nat) (s : State), 1 ≤ count → count ≤ 48 → first + count ≤ 257 →
    Clear .readCurvePoints s →
    exec (.readCurvePoints tag [word k.val, word first, word count]) s = .next (replied .readCurvePoints tag .ok
      (word k.val :: word first :: (List.range count).map fun j =>
        pointWord (s.chp.curves[k].live.toList.getD (first + j) 0)) (consumePermit s))) ∧
  ∀ (tag : Word) (k : Fin 8) (first count : Nat) (s : State), 1 ≤ count → count ≤ 48 → first + count ≤ 128 →
    Clear .readCabTaps s →
    exec (.readCabTaps tag [word k.val, word first, word count]) s = .next (replied .readCabTaps tag .ok
      (word k.val :: word first :: (List.range count).map fun j =>
        pointWord (s.chp.cabs[k].live.toList.getD (first + j) 0)) (consumePermit s))

/-! ### Scenes and changes -/

/-- *Write Scene Header* sets exponent and tempo, clamped, keeps the sections of a present slot, and gives an absent one
four sections of default records (R64); *Erase Scene* makes one slot absent, whether it was present or not (R67). -/
def Obligations.HeadersAndErasuresSetTheSlot : Prop :=
  (∀ (tag : Word) (n : Fin 128) (exponent present tempo : Word) (s : State), Clear .writeSceneHeader s →
    Admitted .writeSceneHeader s → ∃ scene : Scene,
      scene.exponent = max 6 (min 12 exponent.toNat) ∧
      scene.tempo = (if present.getLsbD 0 then some (max 3000 (min 24000 tempo.toNat)) else none) ∧
      (∀ old : Scene, s.scc.scenes[n] = some old → scene.sections = old.sections) ∧
      (s.scc.scenes[n] = none → ∀ c : Fin 4, scene.sections[c] =
        ⟨.hold, 0, 0, Vector.replicate 12 ⟨.trim 4096, false, false⟩⟩) ∧
      exec (.writeSceneHeader tag [word n.val, exponent, present, tempo]) s =
        .next (replied .writeSceneHeader tag .ok [] (putScene n (some scene) (consumePermit s)))) ∧
  ∀ (tag : Word) (n : Fin 128) (s : State), Clear .eraseScene s → Admitted .eraseScene s →
    exec (.eraseScene tag [word n.val]) s = .next (replied .eraseScene tag .ok [] (putScene n none (consumePermit s)))

/-- *Write Section* sets mode, pan and stage count of one section, clamped, and keeps its stage records and the other
sections (R65); *Write Stages* stores its run of 1 to 5 records from the first index up, each clamped, and keeps every
other position (R66, R202). -/
def Obligations.SectionsAndStagesAreStored : Prop :=
  (∀ (tag : Word) (n : Fin 128) (c : Fin 4) (mode pan count : Word) (old : Scene) (s : State), Clear .writeSection s →
    Admitted .writeSection s → s.scc.scenes[n] = some old → ∃ t : SceneSection,
      t.mode = (if mode.toNat = 0 then .hold else if mode.toNat = 1 then .off else .run) ∧
      t.pan = max (-64) (min 64 pan.toInt) ∧ t.count = min 12 count.toNat ∧ t.stages = old.sections[c].stages ∧
      exec (.writeSection tag [word n.val, word c.val, mode, pan, count]) s =
        .next (replied .writeSection tag .ok []
          (putScene n (some { old with sections := upd old.sections c t }) (consumePermit s)))) ∧
  ∀ (tag : Word) (n : Fin 128) (c : Fin 4) (first count : Nat) (words : List Word) (old : Scene) (s : State),
    1 ≤ count → count ≤ 5 → first + count ≤ 12 → words.length = 10 * count → Clear .writeStages s →
    Admitted .writeStages s → s.scc.scenes[n] = some old → ∃ t : SceneSection,
      t.mode = old.sections[c].mode ∧ t.pan = old.sections[c].pan ∧ t.count = old.sections[c].count ∧
      (∀ j : Fin 12, t.stages[j] = if first ≤ j.val ∧ j.val < first + count
        then recordOf ((words.drop (10 * (j.val - first))).take 10) else old.sections[c].stages[j]) ∧
      exec (.writeStages tag (word n.val :: word c.val :: word first :: words)) s =
        .next (replied .writeStages tag .ok []
          (putScene n (some { old with sections := upd old.sections c t }) (consumePermit s)))

/-- *Read Scene* answers the header, the tempo, the section and up to five records as stored, and changes nothing (R68,
R201); what the tempo word of a scene without a tempo holds is left free (log entry 1). *Read Pool*, *Read Context Status*
and *Read Routes* answer OK with their data and change nothing; the F and k of a chain without a fade and the k of a slot
without a ramp are left free (log entries 4 and 8) (R62, R93, R145). The unassigned bits of all these words, and the
4-bit groups of stage positions without a stage, are 0 by log entry 9. A pool byte names the one stage that holds the
block or says that it is free, and the codes, the route words and the owner word are those of R201 and Tables 11-4 and
11-5. -/
def Obligations.ReadsOfScenesAndStatusChangeNothing : Prop :=
  (∀ (tag : Word) (n : Fin 128) (c : Fin 4) (first : Fin 12) (scene : Scene) (s : State), Clear .readScene s →
    s.scc.scenes[n] = some scene → ∃ tempo : Word, (∀ t : Nat, scene.tempo = some t → tempo = word t) ∧
      exec (.readScene tag [word n.val, word c.val, word first.val]) s = .next (replied .readScene tag .ok
        ([word (scene.exponent + if scene.tempo.isSome then 32768 else 0), tempo,
          word (scene.sections[c].mode.code + 256 * scene.sections[c].count), signedWord scene.sections[c].pan,
          word (first.val + 256 * min 5 (12 - first.val))] ++
          ((scene.sections[c].stages.toList.drop first.val).take 5).flatMap recordWords) (consumePermit s))) ∧
  ∀ (tag : Word) (s : State),
    (Clear .readPool s → exec (.readPool tag []) s = .next (replied .readPool tag .ok
      (word s.dpl.free.length :: (List.range 24).map fun j =>
        word (256 * holderByte s.scc.ctxs (2 * j) + holderByte s.scc.ctxs (2 * j + 1))) (consumePermit s))) ∧
    (Clear .readContextStatus s → ∃ restF restK : Word,
      let marks (k : Ctx) (i : Nat) : Nat :=
        if h : i < k.stages.length then k.stages[i].effective.val + (if k.stages[i].shed then 4 else 0) else 0
      let four (k : Ctx) (i : Nat) : Word :=
        word (marks k i + 16 * marks k (i + 1) + 256 * marks k (i + 2) + 4096 * marks k (i + 3))
      let context (k : Ctx) : List Word :=
        [word (k.state.code + 256 * k.stages.length),
          word ((match k.scene with
            | some n => n.val
            | none => 255) + 256 * k.blocks.length), four k 0, four k 4, four k 8]
      let chain (c : Fin 4) : List Word :=
        let f := s.scc.fades[c]
        [word (f.kind.code + if s.bgv.bypass[c] then 32768 else 0), if f.kind = .none then restF else word f.length,
          if f.kind = .none then restK else word f.k] ++ context (s.scc.ctx c 0) ++ context (s.scc.ctx c 1)
      exec (.readContextStatus tag []) s = .next (replied .readContextStatus tag .ok
        (chain 0 ++ chain 1 ++ chain 2 ++ chain 3) (consumePermit s))) ∧
    (Clear .readRoutes s → exec (.readRoutes tag []) s = .next (replied .readRoutes tag .ok
      (word ((if s.ort.panic then 1 else 0) + if s.lct.showLocked then 2 else 0) ::
        (List.finRange 8).flatMap fun i => routeWords s.ort.routes[i] ++
          [ownerWord s.ort.owners[i], rampWord s.ort.owners[i]]) (consumePermit s))) ∧
    (∀ (ctxs : Vector (Vector Ctx 2) 4) (b : Nat),
      let holds (c : Fin 4) (x : Fin 2) (i : Nat) : Prop := ∃ st : Stage, ctxs[c][x].stages[i]? = some st ∧ b ∈ st.blocks
      ((∀ (c : Fin 4) (x : Fin 2) (i : Nat), ¬ holds c x i) → holderByte ctxs b = 128) ∧
      ∀ (c : Fin 4) (x : Fin 2) (i : Nat), holds c x i →
        (∀ (d : Fin 4) (y : Fin 2) (j : Nat), holds d y j → d = c ∧ y = x ∧ j = i) →
        holderByte ctxs b = 32 * c.val + 16 * x.val + i) ∧
    (∀ r : Route, routeWords r = [
      (match r.primary with
        | none => 0x8000
        | some p => word (p.1.val + if p.2 = .right then 256 else 0)),
      (match r.secondary with
        | none => 0x8000
        | some i => word i.val),
      word r.trim, word ((if r.exempt then 1 else 0) + if r.participating then 2 else 0)]) ∧
    (let claim : Source → Nat
        | .panic (some i) => 0 + 16 * i.val
        | .panic none => 0 + 16 * 8
        | .tuner c => 1 + 16 * c.val
        | .chain c side => 2 + 16 * (c.val + if side = .right then 4 else 0)
        | .direct i => 3 + 16 * i.val
        | .fill => 4
      ∀ (o : SlotOwner),
        (∀ out : Source, o.outgoing = some out → ownerWord o = word (claim o.owner + 256 * claim out) ∧
          rampWord o = word o.k) ∧
        (o.outgoing = none → ownerWord o = word (claim o.owner + 256 * 7))) ∧
    [CtxState.idle, .loading, .ready, .live, .fadingOut, .spilling, .cutting].map CtxState.code = [0, 1, 2, 3, 4, 5, 6] ∧
    [FadeKind.none, .cross, .fadeIn, .fadeOut, .dipCross, .dipIn, .dipOut].map FadeKind.code = [0, 1, 2, 3, 4, 5, 6] ∧
    [SectionMode.hold, .off, .run].map SectionMode.code = [0, 1, 2]

/-- A scene request that finds SCC busy is answered ACCEPTED and takes the pending slot, where an older one ends
SUPERSEDED, with its counter risen and SCENE set; one that starts fails its first checks as EMPTY, ABSENT (which pops the
stack for a *Return*) or ALREADY_LIVE, written to mailbox 6 with SCENE set (R72, R73, R74, R92). It then fails with BUDGET
when its trial does not fit after passes 1 and 2, and with POOL when the free blocks and those of the tails do not cover
its need (R74, R75, R161). The trial's running set and the need are those of R75. A parcel and a footswitch action ask
alike: the parcel leaves what `requestArrives` gives. That the reply is in the queue before SCENE joins the pending set, so
that no notice comes before it, is the model's choice of log entry 41. -/
def Obligations.RequestsThatCannotStart : Prop :=
  (∀ (tag : Word) (n : Fin 128) (reload : Word) (s : State), s.scc.change ≠ .idle →
    ∀ (i : Instr) (k : Kind) (r : Request), (i, k, r) ∈ [
      (Instr.select tag [word n.val, reload], Kind.select, Request.select n (reload.getLsbD 0)),
      (.call tag [word n.val], .call, .call n), (.ret tag [], .ret, .ret)] → Clear k s →
    (s.scc.waiting = none → exec i s = .next (replied k tag .accepted []
      (writeSceneBox { consumePermit s with scc := { s.scc with waiting := some r } }))) ∧
    ∀ old : Request, s.scc.waiting = some old → exec i s = .next (replied k tag .accepted []
      (raise .scene (writeSceneBox { consumePermit s with
        scc := { s.scc with waiting := some r, last := some ⟨.superseded, old, old.names⟩ }
        lct := { s.lct with
          permit := false
          counters := { s.lct.counters with superseded := min 65535 (s.lct.counters.superseded + 1) } } })))) ∧
  (∀ (tag : Word) (n : Fin 128) (reload : Word) (s : State), s.lif.state.processing = true →
    ∀ (i : Instr) (k : Kind) (r : Request), (i, k, r) ∈ [
      (Instr.select tag [word n.val, reload], Kind.select, Request.select n (reload.getLsbD 0)),
      (.call tag [word n.val], .call, .call n), (.ret tag [], .ret, .ret)] → Clear k s →
    ∃ code : Code, exec i s = .next (replied k tag code [] (requestArrives r (consumePermit s)).1)) ∧
  (∀ (scene : Scene) (s : State),
    let records (c : Fin 4) : List StageRecord := scene.sections[c].stages.toList.take scene.sections[c].count
    let r := trialSet scene s
    (∀ c : Fin 4,
      (scene.sections[c].mode = .run → r.ctxs[c][(1 : Fin 2)] = Ctx.empty ∧
        r.ctxs[c][(0 : Fin 2)] = { Ctx.empty with
          state := .live
          stages := (records c).map fun t => ⟨t, t.requested, false, Proc.zero, []⟩ }) ∧
      (scene.sections[c].mode = .hold → ∀ x : Fin 2, r.ctxs[c][x] = (s.scc.ctx c x).atRequest) ∧
      (scene.sections[c].mode = .off → ∀ x : Fin 2, r.ctxs[c][x] = Ctx.empty) ∧
      r.fades[c].kind = .none ∧ r.bypass[c] = false) ∧
    ((∀ (c : Fin 4) (x : Fin 2), (s.scc.ctx c x).stages.length ≤ 12) → ∃ e : Course, Passes12 s.budget r e ∧
      (trialFits scene s = true ↔ e.set.demand ≤ s.budget)) ∧
    (scene.need = (chains.map fun c => if scene.sections[c].mode = .run
      then ((records c).map fun t => match t.params with
        | .delay p => (p.maxLength + 4095) / 4096
        | _ => 0).sum else 0).sum) ∧
    (availableBlocks s = s.dpl.free.length + (allCtxs.map fun cx =>
      if (s.scc.ctx cx.1 cx.2).state = .spilling ∨ (s.scc.ctx cx.1 cx.2).state = .cutting
      then (s.scc.ctx cx.1 cx.2).blocks.length else 0).sum)) ∧
  ∀ (tag : Word) (n : Fin 128) (reload : Word) (s : State), s.scc.change = .idle →
    let ended (o : SceneOutcome) (r : Request) (m : Option (Fin 128)) (stack : List (Fin 128)) : State :=
      raise .scene (writeSceneBox { consumePermit s with
        scc := { s.scc with stack := stack, last := some ⟨o, r, m⟩ } })
    (Clear .ret s → s.scc.stack = [] →
      exec (.ret tag []) s = .next (replied .ret tag .empty [] (ended .empty .ret none []))) ∧
    (Clear .ret s → ∀ rest, s.scc.stack = n :: rest → s.scc.scenes[n] = none →
      exec (.ret tag []) s = .next (replied .ret tag .absent [] (ended .absent .ret (some n) rest))) ∧
    (Clear .select s → s.scc.scenes[n] = none → exec (.select tag [word n.val, reload]) s = .next
      (replied .select tag .absent [] (ended .absent (.select n (reload.getLsbD 0)) (some n) s.scc.stack))) ∧
    (Clear .call s → s.scc.scenes[n] = none → exec (.call tag [word n.val]) s = .next
      (replied .call tag .absent [] (ended .absent (.call n) (some n) s.scc.stack))) ∧
    (Clear .select s → s.scc.scenes[n] ≠ none → s.scc.live = some n → reload.getLsbD 0 = false →
      exec (.select tag [word n.val, reload]) s = .next
        (replied .select tag .alreadyLive [] (ended .alreadyLive (.select n false) (some n) s.scc.stack))) ∧
    (Clear .call s → s.scc.scenes[n] ≠ none → s.scc.live = some n → exec (.call tag [word n.val]) s = .next
      (replied .call tag .alreadyLive [] (ended .alreadyLive (.call n) (some n) s.scc.stack))) ∧
    ∀ scene : Scene, s.scc.scenes[n] = some scene → ∀ (i : Instr) (k : Kind) (r : Request),
      ((i, k, r) = (Instr.select tag [word n.val, reload], Kind.select, Request.select n (reload.getLsbD 0)) ∧
        (reload.getLsbD 0 = true ∨ s.scc.live ≠ some n) ∨
      (i, k, r) = (Instr.call tag [word n.val], Kind.call, Request.call n) ∧ s.scc.live ≠ some n ∨
      (i, k, r) = (Instr.ret tag [], Kind.ret, Request.ret) ∧ s.scc.stack.head? = some n) → Clear k s →
      (trialFits scene s = false →
        exec i s = .next (replied k tag .budget [] (ended .budget r (some n) s.scc.stack))) ∧
      (trialFits scene s = true → availableBlocks s < scene.need →
        exec i s = .next (replied k tag .pool [] (ended .pool r (some n) s.scc.stack)))

/-- A request that passes its checks is answered ACCEPTED and becomes the change in flight, with the change copy of its
target and each chain's standby context; the scene store, the return stack and the live scene stand (R70, R72, R74, R76,
R89). The SPILLING standby contexts of its RUN chains are cut, and further SPILLING contexts in descending order until the
free blocks and those of CUTTING contexts cover the need (R77). The load starts at once where every RUN chain's standby
context is IDLE and the free blocks cover the need; otherwise SCC waits in CUTTING (R76, R78). Frames are being
processed. -/
def Obligations.StartedRequestsTakeTheChangeCopy : Prop :=
  ∀ (tag : Word) (n : Fin 128) (reload : Word) (scene : Scene) (s : State), s.scc.change = .idle →
    s.lif.state.processing = true → s.scc.scenes[n] = some scene → trialFits scene s = true →
    scene.need ≤ availableBlocks s →
    ∀ (i : Instr) (k : Kind) (r : Request),
      ((i, k, r) = (Instr.select tag [word n.val, reload], Kind.select, Request.select n (reload.getLsbD 0)) ∧
        (reload.getLsbD 0 = true ∨ s.scc.live ≠ some n) ∨
      (i, k, r) = (Instr.call tag [word n.val], Kind.call, Request.call n) ∧ s.scc.live ≠ some n ∨
      (i, k, r) = (Instr.ret tag [], Kind.ret, Request.ret) ∧ s.scc.stack.head? = some n) → Clear k s →
    ∃ (t u : State) (f : InFlight) (count : Nat), exec i s = .next (replied k tag .accepted [] t) ∧
      t.scc.inFlight = some f ∧ f.request = r ∧ f.target = n ∧ f.copy = scene ∧
      (∀ c : Fin 4, (∀ x : Fin 2, liveCtx s.scc.ctxs[c] = some x → f.standby[c] ≠ x) ∧
        (liveCtx s.scc.ctxs[c] = none → f.standby[c] =
          if (s.scc.ctx c 0).state ≠ .idle ∧ (s.scc.ctx c 1).state = .idle then 1 else 0)) ∧
      (let order : List (Fin 4 × Fin 2) := [(3, 1), (3, 0), (2, 1), (2, 0), (1, 1), (1, 0), (0, 1), (0, 0)]
      let cut (m : Nat) (cx : Fin 4 × Fin 2) : Bool := (s.scc.ctx cx.1 cx.2).state = .spilling &&
        ((scene.sections[cx.1].mode = .run && cx.2 = f.standby[cx.1]) || (order.take m).contains cx)
      let covered (m : Nat) : Nat := s.dpl.free.length + (allCtxs.map fun cx =>
        if (s.scc.ctx cx.1 cx.2).state = .cutting ∨ cut m cx = true
        then (s.scc.ctx cx.1 cx.2).blocks.length else 0).sum
      let atOnce : Prop := (∀ c : Fin 4, scene.sections[c].mode = .run → (u.scc.ctx c f.standby[c]).state = .idle) ∧
        scene.need ≤ u.dpl.free.length
      count ≤ 8 ∧ scene.need ≤ covered count ∧ (∀ m : Nat, m < count → covered m < scene.need) ∧
      (∀ (c : Fin 4) (x : Fin 2), (cut count (c, x) = true → CutFrom (s.scc.ctx c x) (u.scc.ctx c x)) ∧
        (cut count (c, x) = false → u.scc.ctx c x = s.scc.ctx c x)) ∧
      u.dpl.free.Perm (s.dpl.free ++ allCtxs.flatMap fun cx =>
        if cut count cx then (s.scc.ctx cx.1 cx.2).dryBlocks else []) ∧
      u = { s with scc := { s.scc with ctxs := u.scc.ctxs }, dpl := { s.dpl with free := u.dpl.free } } ∧
      (¬ atOnce → t.scc.change = .cutting ∧ t.scc.ctxs = u.scc.ctxs ∧ t.dpl = u.dpl) ∧ (atOnce → Loaded f u t) ∧
      ((∃ cx : Fin 4 × Fin 2, cut count cx = true) → t.bgv = { s.bgv with evaluate := true })) ∧
      (t.scc.change = .cutting ∨ t.scc.change = .loading) ∧ t.scc.scenes = s.scc.scenes ∧ t.scc.stack = s.scc.stack ∧
      t.scc.live = s.scc.live ∧ t.scc.last = s.scc.last ∧ t.scc.fades = s.scc.fades ∧
      t.bgv = { s.bgv with evaluate := t.bgv.evaluate } ∧
      t.lct = { s.lct with permit := false, boxes := { s.lct.boxes with scene :=
        ⟨⟨s.scc.live, t.scc.change, some n, none, s.scc.last, s.scc.stack.length⟩, true⟩ } } ∧ t.chp = s.chp ∧
      t.tfu = s.tfu ∧ t.tun = s.tun ∧ t.ort = s.ort ∧ t.lif = s.lif ∧ t.pending = s.pending

/-- A load that falls due fills every RUN chain's standby context from the change copy, zeroed and at its requested
values, and its stages take the first free blocks, the lowest-numbered of an ascending free list, chain by chain and
stage by stage; a LOADING context that has counted its frames becomes READY; and a pending
request starts as the same request would that finds SCC idle (R48, R54, R55, R73, R78, R79, R80). Frames are being
processed. -/
def Obligations.LoadsFillTheStandbyContexts : Prop :=
  (∀ (f : InFlight) (s : State), (∀ e ∈ contextEvents, due e s = false) → s.lif.state.processing = true →
    s.scc.change = .cutting → s.scc.inFlight = some f → loadReady f s = true →
    ∃ t : State, exec .loadStart s = .next t ∧ Loaded f s t ∧ t.scc.fades = s.scc.fades ∧
      t.scc.scenes = s.scc.scenes ∧ t.scc.stack = s.scc.stack ∧ t.scc.live = s.scc.live ∧
      t.bgv = { s.bgv with evaluate := t.bgv.evaluate } ∧
      t.lct = { s.lct with boxes := { s.lct.boxes with scene := t.lct.boxes.scene } } ∧ t.chp = s.chp ∧
      t.tfu = s.tfu ∧ t.tun = s.tun ∧ t.ort = s.ort ∧ t.lif = s.lif ∧ t.pending = s.pending) ∧
  (∀ (c : Fin 4) (x : Fin 2) (s : State), s.lif.state.processing = true → (s.scc.ctx c x).state = .loading →
    4 + (s.scc.ctx c x).stages.length ≤ (s.scc.ctx c x).loadCount →
    ∃ stages : List Stage, exec (.loadComplete c x) s =
        .next (markEvaluation (putCtx c x { s.scc.ctx c x with state := .ready, stages := stages } s)) ∧
      stages.length = (s.scc.ctx c x).stages.length ∧
      ∀ (i : Nat) (st : Stage), (s.scc.ctx c x).stages[i]? = some st →
        ((∀ p, st.record.params ≠ .delay p) → stages[i]? = some st) ∧
        ∀ p, st.record.params = .delay p →
          let wanted := match p.mode with
            | .fixed => p.fixedLength
            | .sync => s.tfu.period * p.division.ratio.1 / p.division.ratio.2
          stages[i]? = some { st with proc := { st.proc with line := { st.proc.line with
            readLength := some (max 1 (min (min p.maxLength (4096 * st.blocks.length)) wanted)) } } }) ∧
  ∀ (r : Request) (s : State), (∀ e ∈ contextEvents, due e s = false) → s.scc.change = .idle →
    s.scc.waiting = some r →
    let u : State := { s with scc := { s.scc with waiting := none } }
    exec .pendingRequestStart s = .next (requestArrives r u).1 ∧
    (r = .ret → s.scc.stack = [] → exec .pendingRequestStart s = .next (raise .scene (writeSceneBox
      { u with scc := { u.scc with last := some ⟨.empty, .ret, none⟩ } }))) ∧
    ∀ (n : Fin 128) (scene : Scene), r = .select n true → s.scc.scenes[n] = some scene → trialFits scene s = true →
      scene.need ≤ availableBlocks s → s.lif.state.processing = true → ∃ (t : State) (f : InFlight),
        exec .pendingRequestStart s = .next t ∧ t.scc.waiting = none ∧ t.scc.inFlight = some f ∧ f.request = r ∧
        f.target = n ∧ f.copy = scene ∧ t.scc.scenes = s.scc.scenes ∧ t.scc.stack = s.scc.stack ∧
        t.scc.live = s.scc.live

/-- The switch acts on every chain by the table of R81, applies the scene tempo, moves the return stack, sets the live
scene, and ends the request SWITCHED (R81, R82, R88, R92, R100). -/
def Obligations.TheSwitchFollowsTheTable : Prop :=
  ∀ (f : InFlight) (s : State), quiet s = true → s.lif.state.processing = true → s.scc.change = .loading →
    s.scc.inFlight = some f → (∀ (c : Fin 4) (x : Fin 2), (s.scc.ctx c x).state ≠ .loading) →
    ∃ t : State, exec .switch s = .next t ∧
      (∀ c : Fin 4,
        let fresh (kind : FadeKind) : Fade := ⟨kind, 2 ^ f.copy.exponent, 0, false⟩
        let x := f.standby[c]
        (f.copy.sections[c].mode = .hold → t.scc.ctxs[c] = s.scc.ctxs[c] ∧ t.scc.fades[c] = s.scc.fades[c]) ∧
        (f.copy.sections[c].mode = .off → t.scc.ctxs[c] = s.scc.ctxs[c] ∧
          t.scc.fades[c] = if (liveCtx s.scc.ctxs[c]).isSome then fresh .fadeOut else s.scc.fades[c]) ∧
        (f.copy.sections[c].mode = .run → (s.scc.ctx c x).state ≠ .ready →
          t.scc.ctxs[c] = s.scc.ctxs[c] ∧ t.scc.fades[c] = s.scc.fades[c]) ∧
        (f.copy.sections[c].mode = .run → (s.scc.ctx c x).state = .ready →
          t.scc.ctx c x = { s.scc.ctx c x with state := .live } ∧
          (liveCtx s.scc.ctxs[c] = none → t.scc.fades[c] = fresh .fadeIn ∧
            ∀ y, y ≠ x → t.scc.ctx c y = s.scc.ctx c y) ∧
          ∀ y, liveCtx s.scc.ctxs[c] = some y → t.scc.fades[c] = fresh .cross ∧
            t.scc.ctx c y = { s.scc.ctx c y with state := .fadingOut })) ∧
      (∀ m r, f.request = .select m r → t.scc.stack = s.scc.stack) ∧
      (∀ m, f.request = .call m → t.scc.stack = match s.scc.live with
        | some n => (n :: s.scc.stack).take 6
        | none => s.scc.stack) ∧
      (f.request = .ret → t.scc.stack = s.scc.stack.drop 1) ∧ t.scc.live = some f.target ∧
      t.scc.last = some ⟨.switched, f.request, some f.target⟩ ∧ t.lct.notices.getLsbD 1 = true ∧
      t.lct.boxes.scene = ⟨⟨some f.target, t.scc.change, t.scc.inFlight.map InFlight.target, s.scc.waiting,
        t.scc.last, t.scc.stack.length⟩, true⟩ ∧
      ((∀ c : Fin 4, t.scc.fades[c].kind = .none) → t.scc.change = .idle ∧ t.scc.inFlight = none) ∧
      ((∃ c : Fin 4, t.scc.fades[c].kind ≠ .none) → t.scc.change = .fading ∧ t.scc.inFlight = some f) ∧
      (f.copy.tempo = none → t.tfu = s.tfu) ∧
      (∀ bpm, f.copy.tempo = some bpm →
        let b := max 3000 (min 24000 bpm)
        t.tfu.source = .scene ∧ t.tfu.taps = s.tfu.taps ∧
        t.tfu.period = max (s.hz / 4) (min (2 * s.hz) ((6000 * s.hz + b / 2) / b))) ∧
      t.scc.waiting = s.scc.waiting ∧ t.scc.scenes = s.scc.scenes ∧ t.dpl = s.dpl ∧ t.chp = s.chp ∧ t.tun = s.tun ∧
      t.ort = s.ort ∧ t.lif = s.lif ∧ t.pending = s.pending ∧
      (t.scc.ctxs ≠ s.scc.ctxs → t.bgv = { s.bgv with evaluate := true })

/-- The end of a chain's fade and the half-way point of a dip: the outgoing context leaves for SPILLING or IDLE, the fade
record returns to NONE, and SCC returns to IDLE with the last fade of the change (R84, R85, R159). What an IDLE context
holds beside its state is log entry 3's, and F and k of a fade record at NONE are log entry 4's. Frames are being
processed. -/
def Obligations.FadesEndAndTheirOutgoingPartsLeave : Prop :=
  ∀ (c : Fin 4) (s : State), s.lif.state.processing = true →
    let f := s.scc.fades[c]
    let ends (t : State) : Prop := exec (.fadeEnd c) s = .next t ∧ t.scc.fades[c] = ⟨.none, 0, 0, false⟩ ∧
      (∀ d : Fin 4, d ≠ c → t.scc.fades[d] = s.scc.fades[d]) ∧
      (s.scc.change = .fading → (∀ d : Fin 4, d ≠ c → s.scc.fades[d].kind = .none) →
        t.scc.change = .idle ∧ t.scc.inFlight = none ∧ t.lct.boxes.scene.fresh = true) ∧
      (∀ d : Fin 4, d ≠ c → s.scc.fades[d].kind ≠ .none →
        t.scc.change = s.scc.change ∧ t.scc.inFlight = s.scc.inFlight) ∧
      t.scc.scenes = s.scc.scenes ∧ t.scc.live = s.scc.live ∧ t.scc.stack = s.scc.stack ∧ t.dpl.mem = s.dpl.mem ∧
      t.chp = s.chp ∧ t.tfu = s.tfu ∧ t.tun = s.tun ∧ t.ort = s.ort ∧ t.lif = s.lif ∧ t.pending = s.pending
    (∀ x : Fin 2, (f.kind = .cross ∧ f.length ≤ f.k ∧ fadingCtx s.scc.ctxs[c] = some x ∨
        f.kind = .fadeOut ∧ f.length ≤ f.k ∧ liveCtx s.scc.ctxs[c] = some x ∨
        f.kind = .dipOut ∧ 32 ≤ f.k ∧ liveCtx s.scc.ctxs[c] = some x) →
      ∃ t : State, ends t ∧ LeftFade s t c x ∧ t.bgv.evaluate = true) ∧
    ((f.kind = .fadeIn ∧ f.length ≤ f.k ∨ f.kind = .dipIn ∧ 64 ≤ f.k ∨ f.kind = .dipCross ∧ 64 ≤ f.k) →
      ∃ t : State, ends t ∧ t.scc.ctxs = s.scc.ctxs ∧ t.dpl = s.dpl ∧ t.bgv = s.bgv) ∧
    (32 ≤ f.k → f.halfTaken = false →
      (∀ x : Fin 2, f.kind = .dipCross → fadingCtx s.scc.ctxs[c] = some x → ∃ t : State,
        exec (.dipHalfway c) s = .next t ∧ LeftFade s t c x ∧ t.scc.fades[c] = { f with halfTaken := true } ∧
        t.bgv = { s.bgv with evaluate := true } ∧ t.scc.change = s.scc.change ∧ t.lct = s.lct) ∧
      (f.kind = .dipIn → exec (.dipHalfway c) s = .next { s with
        scc := { s.scc with fades := upd s.scc.fades c { f with halfTaken := true } }
        bgv := { s.bgv with evaluate := true } }))

/-- A tail that has been quiet for 4,096 frames ends in IDLE; one that has reached its limit before that is cut, from
position 64; a cut that has reached 0 ends in IDLE; the blocks return to the free list (R56, R59, R60, R61). What an IDLE
context holds beside its state is log entry 3's. Frames are being processed. In a frame of a tail the spill-flagged DELAY
stages that are neither bypassed nor shed run on silence, each from its own line; the tail is the pan of their exact sum,
saturated; a CUTTING context gives it at the cut gain c/64, and c falls by 1; a SPILLING context's counts rise (R57, R58,
R61). -/
def Obligations.TailsEndOrAreCut : Prop :=
  (∀ (c : Fin 4) (x : Fin 2) (s : State), s.lif.state.processing = true →
    let k := s.scc.ctx c x
    (k.state = .spilling → 4096 ≤ k.quietCount → ∃ t : State, exec (.tailEnd c x) s = .next t ∧ Idled s t c x) ∧
    (k.state = .cutting → k.cut = 0 → ∃ t : State, exec (.cutComplete c x) s = .next t ∧ Idled s t c x) ∧
    (k.state = .spilling → k.quietCount < 4096 → k.spillLimit ≤ k.spillCount → ∃ t : State,
      exec (.spillLimit c x) s = .next t ∧ (t.scc.ctx c x).state = .cutting ∧ (t.scc.ctx c x).cut = 64 ∧
      TailKept s t c x ∧ t.bgv = { s.bgv with evaluate := true } ∧
      (∀ (d : Fin 4) (y : Fin 2), (d, y) ≠ (c, x) → t.scc.ctx d y = s.scc.ctx d y) ∧ t.scc.fades = s.scc.fades ∧
      t.scc.change = s.scc.change ∧ t.lct = s.lct ∧ t.chp = s.chp ∧ t.lif = s.lif ∧ t.pending = s.pending)) ∧
  ∀ (env : FrameInputs) (fade : Fade) (z : Int) (mem : List (Nat × Int)),
    (∀ k : Ctx,
      let r := runTail env.clock.period k.stages mem
      let p := panPair k.pan (max (-8388608) (min 8388607 r.sum))
      (k.state = .spilling → ctxFrame env false fade z k mem =
        ⟨{ k with stages := r.stages, spillCount := k.spillCount + 1
                  quietCount := if r.quiet then k.quietCount + 1 else 0 }, some p, r.mem⟩) ∧
      (k.state = .cutting → ctxFrame env false fade z k mem =
        ⟨{ k with stages := r.stages, cut := k.cut - 1 }, some ((p.1 * k.cut + 32) / 64, (p.2 * k.cut + 32) / 64),
          r.mem⟩)) ∧
    runTail env.clock.period [] mem = ⟨[], 0, true, mem⟩ ∧
    ∀ (st : Stage) (rest : List Stage),
      ((st.record.spills = false ∨ st.record.bypass = true ∨ st.shed = true) →
        let r := runTail env.clock.period rest mem
        runTail env.clock.period (st :: rest) mem = ⟨st :: r.stages, r.sum, r.quiet, r.mem⟩) ∧
      ∀ p : DelayParams, st.record.params = .delay p → p.spill = true → st.record.bypass = false → st.shed = false →
        let line := st.proc.line
        let length := frameLength p st.blocks env.clock.period line
        let size := 4096 * st.blocks.length
        let at_ (q : Nat) : Nat := 4096 * st.blocks.getD (q / 4096) 0 + q % 4096
        let d := if line.fill < length then 0 else memRead mem (at_ ((line.writePos + size - length) % size))
        let r := runTail env.clock.period rest
          (memWrite mem (at_ line.writePos) (max (-8388608) (min 8388607 ((p.feedback * d + 16384) / 32768))))
        runTail env.clock.period (st :: rest) mem =
          ⟨{ st with proc := { st.proc with line :=
              ⟨min size (line.fill + 1), (line.writePos + 1) % size, some length⟩ } } :: r.stages,
            (p.wet * d + 16384) / 32768 + r.sum, decide (d.natAbs < 2106) && r.quiet, r.mem⟩

/-! ### Tempo, taps and footswitches -/

/-- *Set Tempo* applies the rounded period of the clamped tempo, clamped to the range of the rate, carries the beat phase
to the same fraction of the new beat, writes mailbox 4 with source PARCEL, and answers period and tempo as applied; the
tap list stands (R95, R99, R114). -/
def Obligations.SetTempoAppliesTheClampedPeriod : Prop :=
  ∀ (tag bpm : Word) (s : State), Clear .setTempo s →
    let b := max 3000 (min 24000 bpm.toNat)
    let period := max (s.hz / 4) (min (2 * s.hz) ((6000 * s.hz + b / 2) / b))
    let phase := s.tfu.phase * period / s.tfu.period
    exec (.setTempo tag [bpm]) s = .next (replied .setTempo tag .ok
      (twoWords period ++ [word ((6000 * s.hz + period / 2) / period)])
      (writeTempoBox { consumePermit s with tfu := { s.tfu with
        period := period, phase := phase, sub := subPosition period phase, source := .parcel } }))

/-- *Tempo Reset* sets the reset flag, and at the next frame the beat clock goes to the start of a group: as a beat when
the phase was not 0, without one when it was (R102). A phase that reaches the period is a beat (R96), and a rise of the
sub-beat position, the number of boundaries floor(P × m/8) that the phase has reached, is reported without BEAT (R97). -/
def Obligations.TheBeatClockRunsAndResets : Prop :=
  (∀ (tag : Word) (s : State), Clear .tempoReset s → exec (.tempoReset tag []) s =
    .next (replied .tempoReset tag .ok [] { consumePermit s with tfu := { s.tfu with resetFlag := true } })) ∧
  (∀ s : State, quiet s = true → s.lif.state.processing = true → s.tfu.resetFlag = true → s.bgv.evaluate = false →
    switchDue s = false →
    (s.tfu.phase ≠ 0 → exec .tempoResetTaken s = .next (raise .beat (writeTempoBox { s with tfu := { s.tfu with
      phase := 0, group := 0, sub := 0, beats := s.tfu.beats + 1, resetFlag := false } }))) ∧
    (s.tfu.phase = 0 → exec .tempoResetTaken s = .next (writeTempoBox { s with tfu := { s.tfu with
      group := 0, resetFlag := false } }))) ∧
  (∀ s : State, s.tfu.period ≤ s.tfu.phase → exec .beat s = .next (raise .beat (writeTempoBox { s with tfu := { s.tfu with
    phase := 0, group := (s.tfu.group + 1) % 12, beats := s.tfu.beats + 1, sub := 0 } }))) ∧
  (∀ (s : State) (m : Nat), s.tfu.phase < s.tfu.period → s.tfu.sub < m → m ≤ 7 →
    s.tfu.period * m / 8 ≤ s.tfu.phase → (m < 7 → s.tfu.phase < s.tfu.period * (m + 1) / 8) →
    exec .subdivision s = .next (writeTempoBox { s with tfu := { s.tfu with sub := m } }))

/-- *Tap* classifies and applies a tap by the table of R104, and answers the classification, the number of intervals and
the period (R103 to R105). The interval I is the count of frames since the previous tap. -/
def Obligations.TapFollowsTheTable : Prop :=
  ∀ (tag : Word) (s : State), Clear .tap s →
    let u := consumePermit s
    let told (code : Nat) (t : State) : Prop := exec (.tap tag []) s = .next (replied .tap tag .ok
      ([word code, word t.tfu.taps.length] ++ twoWords t.tfu.period) t)
    let fresh : State := { u with tfu := { s.tfu with taps := [], previousTap := some s.tfu.frames } }
    (s.lif.state.processing = false → told 2 u) ∧
    (s.lif.state.processing = true → s.tfu.previousTap = none → told 0 fresh) ∧
    ∀ p : Nat, s.lif.state.processing = true → s.tfu.previousTap = some p →
      let interval := s.tfu.frames - p
      (2 * s.hz < interval → told 1 fresh) ∧
      (interval ≤ 2 * s.hz → interval < s.hz / 4 → told 2 u) ∧
      (interval ≤ 2 * s.hz → s.hz / 4 ≤ interval →
        let all := s.tfu.taps ++ [interval]
        let taps := all.drop (all.length - 4)
        told 3 (applyPeriod .tap ((taps.sum + taps.length / 2) / taps.length)
          { u with tfu := { s.tfu with taps := taps, previousTap := some s.tfu.frames } }))

/-- *Write Footswitch Line* replaces the record, each value clamped, and re-evaluates the line as a disable followed, if
enabled, by an enable; nothing is logged and nothing fires (R110). The second word of an action that uses none is the free
value of log entry 2; a record and its actions are laid out by Tables 11-4 and 11-5, in both directions (R201). *Read
Footswitch Log* removes up to the clamped count of the oldest entries and answers them, oldest
first (R113); the unassigned bits of an entry's words are 0 by log entry 9. -/
def Obligations.FootswitchParcelsSetLinesAndDrainTheLog : Prop :=
  (∀ (tag : Word) (i : Fin 8) (enabled high hold p1 p2 h1 h2 : Word) (s : State), Clear .writeFootswitchLine s →
    Admitted .writeFootswitchLine s → ∃ r : LineRecord, r.enabled = enabled.getLsbD 0 ∧ r.closedHigh = high.getLsbD 0 ∧
      r.holdTime = max 20 (min 200 hold.toNat) ∧ r.press = actionOf p1 p2 ∧ r.hold = actionOf h1 h2 ∧
      exec (.writeFootswitchLine tag [word i.val, enabled, high, hold, p1, p2, h1, h2]) s =
        .next (replied .writeFootswitchLine tag .ok (lineRecordWords i r) (putLine i
          { record := r, high := s.tfu.lines[i].high, changes := s.tfu.lines[i].changes,
            state := if enabled.getLsbD 0 then .opened else .disabled, holdCount := 0, deferred := false }
          (consumePermit s)))) ∧
  (∀ (tag count : Word) (s : State), Clear .readFootswitchLog s →
    let n := max 1 (min 16 count.toNat)
    exec (.readFootswitchLog tag [count]) s = .next (replied .readFootswitchLog tag .ok
      (word (s.tfu.log.take n).length :: (s.tfu.log.take n).flatMap logWords)
      { consumePermit s with tfu := { s.tfu with log := s.tfu.log.drop n } })) ∧
  (∀ e : LogEntry,
    let event := match e.event with
      | .press => 0
      | .hold => 1
      | .release => 2
    logWords e = [word (e.line.val + 16 * event), e.time]) ∧
  (∀ kind parameter : Word,
    let a := actionOf kind parameter
    let low := parameter.toNat % 256
    let high := parameter.toNat / 256
    (kind.toNat = 0 → a = .none) ∧
    (kind.toNat = 1 → ∃ n : Fin 128, n.val = min 127 low ∧ a = .select n) ∧
    (kind.toNat = 2 → ∃ n : Fin 128, n.val = min 127 low ∧ a = .call n) ∧
    (kind.toNat = 3 → a = .ret) ∧ (kind.toNat = 4 → a = .tap) ∧ (kind.toNat = 5 → a = .tuner) ∧
    (kind.toNat = 6 → a = .panic) ∧
    (7 ≤ kind.toNat → ∃ (c : Fin 4) (i : Fin 12), c.val = min 3 high ∧ i.val = min 11 low ∧ a = .stageToggle c i)) ∧
  ∃ spare : Nat → Word, ∀ (i : Fin 8) (r : LineRecord),
    let two : Action → List Word
      | .none => [0, spare 0]
      | .select n => [1, word n.val]
      | .call n => [2, word n.val]
      | .ret => [3, spare 3]
      | .tap => [4, spare 4]
      | .tuner => [5, spare 5]
      | .panic => [6, spare 6]
      | .stageToggle c j => [7, word (256 * c.val + j.val)]
    lineRecordWords i r = [word i.val, if r.enabled then 1 else 0, if r.closedHigh then 1 else 0, word r.holdTime] ++
      two r.press ++ two r.hold

/-- At a millisecond tick every line is debounced, the tick count and the supply schedule count, and the lines take their
transitions in ascending order: a press, a hold count, a release, each logged and with its action (R107 to R109, R111,
R112, R163). The transitions wait at a line whose hold time is reached, for HOLD: the line enters CLOSED_HELD, HOLD is
logged, the hold action fires, and the lines above go on. The model's choices are that the tick of an event is the count after
the tick's own rise (log entry 23), that HOLD leaves no press deferred (log entry 29), and that a TUNER action sets TUNER
once for all the channels it changes (log entry 41). -/
def Obligations.TicksDebounceLinesAndTakeTransitions : Prop :=
  (∀ (pins : BitVec 8) (s : State), quiet s = true → ∃ (lines : Vector Line 8) (t : State),
    (∀ j : Fin 8,
      let l := s.tfu.lines[j]
      let level := pins.getLsbD j.val
      (level = l.high → lines[j] = { l with changes := 0 }) ∧
      (level ≠ l.high → l.changes < 4 → lines[j] = { l with changes := l.changes + 1 }) ∧
      (level ≠ l.high → 4 ≤ l.changes → lines[j] = { l with high := level, changes := 0 })) ∧
    exec (.msTick pins) s = .next t ∧
    (let periodic : Bool := 249 ≤ s.bgv.schedule
    let started : Option MeasureCause := if periodic || s.bgv.request
      then some ⟨periodic || s.bgv.starting.any MeasureCause.periodic,
        s.bgv.request || s.bgv.starting.any MeasureCause.requested⟩
      else s.bgv.starting
    LinesTick 0 { s with
      bgv := { s.bgv with
        schedule := if periodic then 0 else s.bgv.schedule + 1, request := false, starting := started }
      tfu := { s.tfu with tick := s.tfu.tick + 1, lines := lines } } t)) ∧
  ∀ (i : Fin 8) (s : State), (∀ e ∈ settleOrder.takeWhile (· ≠ .hold i), due e s = false) → s.tfu.scan = some i →
    HoldTimeReached i s → ∃ u w t : State,
      Logged i .hold { s with tfu := { s.tfu with
        lines := upd s.tfu.lines i { s.tfu.lines[i] with state := .closedHeld, deferred := false } } } u ∧
      Fires s.tfu.lines[i].record.hold u w ∧ exec (.hold i) s = .next t ∧ LinesTick (i.val + 1) w t

/-! ### The tuner and the router -/

/-- *Write Tuner Channel* replaces one channel's record and *Set Tuner Engage* sets the flag; the channels concerned start
or stop measuring or go on, the mailboxes of those whose state or mute request changes are written, TUNER joins the
pending set when one goes into or out of READY, and nothing else changes. *Set Tuner Reference* sets the clamped reference
(R116 to R120, R128, R129). A channel silent for 9,600 samples enters NO_SIGNAL with its histories emptied, with the same
reports, and while TUNER is in the pending set it stays there once, whichever channels set it (R126, R129, R191; that
they set it at one moment, with no notice between, is log entry 41's). The measurement state of a channel that does not measure is log entry 39's. -/
def Obligations.TunerParcelsSetRecordFlagAndReference : Prop :=
  (∀ (tag : Word) (c : Fin 4) (mode mute : Word) (s : State), Clear .writeTunerChannel s →
    Admitted .writeTunerChannel s → ∃ (m : ListenMode) (channels : Vector Channel 4) (t : State),
      m = (if mode.toNat = 0 then .off else if mode.toNat = 1 then .always else .engaged) ∧
      exec (.writeTunerChannel tag [word c.val, mode, mute]) s = .next (replied .writeTunerChannel tag .ok
        [word c.val, word m.code, flagWord (mute.getLsbD 0)] t) ∧
      Follows s.tun.engaged { s.tun.channels[c] with mode := m, muteOnEngage := mute.getLsbD 0 } channels[c] ∧
      (∀ d : Fin 4, d ≠ c → channels[d] = s.tun.channels[d]) ∧
      TunerMoved { s.tun with channels := channels } (consumePermit s) t) ∧
  (∀ (tag action : Word) (s : State), Clear .setTunerEngage s → ∃ t : State,
    let engaged := if action.toNat = 0 then false else if action.toNat = 1 then true else !s.tun.engaged
    exec (.setTunerEngage tag [action]) s = .next (replied .setTunerEngage tag .ok [flagWord engaged] t) ∧
    EngageMoved engaged (consumePermit s) t) ∧
  (∀ (tag tenths : Word) (s : State), Clear .setTunerReference s →
    exec (.setTunerReference tag [tenths]) s = .next (replied .setTunerReference tag .ok
      [word (max 4150 (min 4660 tenths.toNat))]
      { consumePermit s with tun := { s.tun with reference := max 4150 (min 4660 tenths.toNat) } })) ∧
  ∀ (c : Fin 4) (s : State),
    let k := s.tun.channels[c]
    measures k.mode s.tun.engaged = true → k.measure.silence = 9600 →
    (k.state ≠ .noSignal ∨ k.measure.rising ≠ [] ∨ k.measure.falling ≠ []) →
    let quieted : Channel := { k with state := .noSignal, measure := { k.measure with rising := [], falling := [] } }
    ∃ u : State, TunerReported { s.tun with channels := upd s.tun.channels c quieted } s u ∧
      (k.state = .ready → s.lct.notices.getLsbD 3 = false → exec (.tunerSilence c) s = .next (raise .tuner u)) ∧
      ((k.state ≠ .ready ∨ s.lct.notices.getLsbD 3 = true) → exec (.tunerSilence c) s = .next u)

/-- A sample of a measuring channel: a crossing against an armed flag is counted and timed and joins its history, the
flags, the silence count, the index and the previous sample move on (R121 to R124, R126); a completed window is judged by
the stability and range steps and gives READY with its reading or SETTLING with the kept one; a crossing that slides a
full history before the other has filled takes READY to SETTLING (R124, R125). The note of a reading in range is the note
nearest to 69 + 12·log2(q), the higher of two that are as near, and its deviation the tenth of a cent nearest to
12,000·log2(q) − 1,000·(N − 69), the one further from zero of two as near, with q = 10·f ÷ r, f = 256·rate ÷ P256 and r in
tenths of a hertz, all told on integer powers; the frequency is rounded half up (R127). -/
def Obligations.ReadingsNameTheNearestNote : Prop :=
  (∀ (hz reference : Nat) (k : Channel) (x : Int),
    let m := k.measure
    let rose (p : Int) : Prop := m.previous = some p ∧ p < 0 ∧ 0 ≤ x ∧ m.armRising = true
    let fell (p : Int) : Prop := m.previous = some p ∧ 0 < p ∧ x ≤ 0 ∧ m.armFalling = true
    let counted : Prop := ∃ p : Int, rose p ∨ fell p
    let newest (history : List Int) (time : Int) : List Int := (history ++ [time]).drop (history.length - 8)
    ∃ n : Measure,
      (∀ p : Int, rose p → n.rising = newest m.rising (256 * ((m.index : Int) - 1) + 256 * (-p) / (x - p))) ∧
      ((∀ p : Int, ¬ rose p) → n.rising = m.rising) ∧
      (∀ p : Int, fell p → n.falling = newest m.falling (256 * ((m.index : Int) - 1) + 256 * p / (p - x))) ∧
      ((∀ p : Int, ¬ fell p) → n.falling = m.falling) ∧
      (n.armRising = true ↔ x < -83886 ∨ m.armRising = true ∧ ∀ p : Int, ¬ rose p) ∧
      (n.armFalling = true ↔ 83886 < x ∨ m.armFalling = true ∧ ∀ p : Int, ¬ fell p) ∧
      (counted → n.silence = 0) ∧ (¬ counted → n.silence = m.silence + 1) ∧ n.index = m.index + 1 ∧
      n.previous = some x ∧
      (let complete : Prop := counted ∧ n.rising.length = 9 ∧ n.falling.length = 9
      let tr := n.rising.getD 8 0 - n.rising.getD 0 0
      let tf := n.falling.getD 8 0 - n.falling.getD 0 0
      let period := ((tr + tf + 8) / 16).toNat
      let good : Prop := 32 * |tr - tf| ≤ tr ∧ 20 * period ≤ 256 * hz ∧ 256 * hz ≤ 1500 * period
      let kept : Measure := { n with rising := n.rising.drop 8, falling := n.falling.drop 8 }
      let slid : Prop := k.state = .ready ∧
        ((∃ p : Int, rose p) ∧ m.rising.length = 9 ∧ m.falling.length < 9 ∨
          (∃ p : Int, fell p) ∧ m.falling.length = 9 ∧ m.rising.length < 9)
      (complete → good → sampleStep hz reference k x =
        ⟨{ k with measure := kept, state := .ready, reading := readingOf hz reference period }, true⟩) ∧
      (complete → ¬ good → sampleStep hz reference k x = ⟨{ k with measure := kept, state := .settling }, true⟩) ∧
      (¬ complete → slid → sampleStep hz reference k x = ⟨{ k with measure := n, state := .settling }, false⟩) ∧
      (¬ complete → ¬ slid → sampleStep hz reference k x = ⟨{ k with measure := n }, false⟩))) ∧
  ∀ hz period reference : Nat, 0 < hz → 20 * period ≤ 256 * hz → 256 * hz ≤ 1500 * period → 4150 ≤ reference →
    reference ≤ 4660 →
    let r := readingOf hz reference period
    let num := 2560 * hz
    let den := period * reference
    let above := num ^ 24000 * 2 ^ 139001
    let below := num ^ 24000 * 2 ^ 138999
    let told := den ^ 24000 * 2 ^ (2000 * r.note + (2 * (r.deviation + 500)).toNat)
    den ^ 24 * 2 ^ (2 * r.note) ≤ num ^ 24 * 2 ^ 139 ∧ num ^ 24 * 2 ^ 137 < den ^ 24 * 2 ^ (2 * r.note) ∧
    -500 ≤ r.deviation ∧ r.deviation ≤ 500 ∧ (0 < r.deviation → told ≤ above ∧ below < told) ∧
    (r.deviation = 0 → told < above ∧ below < told) ∧ (r.deviation < 0 → told < above ∧ below ≤ told) ∧
    r.frequency = (25600 * hz + period / 2) / period

/-- *Write Route* replaces one slot's record, its chain and inbound slot clamped, and *Set Panic* sets, clears or inverts
the panic flag; neither touches an owner or a ramp (R133, R141). -/
def Obligations.RouteAndPanicParcelsSetTheirRecords : Prop :=
  (∀ (tag : Word) (i : Fin 8) (primary secondary trim flags : Word) (s : State), Clear .writeRoute s →
    Admitted .writeRoute s → ∃ r : Route,
      (primary.getLsbD 15 = true → r.primary = none) ∧
      (primary.getLsbD 15 = false → ∃ p, r.primary = some p ∧ p.1.val = min 3 (lowByte primary).toNat ∧
        p.2 = if primary.getLsbD 8 then .right else .left) ∧
      (secondary.getLsbD 15 = true → r.secondary = none) ∧
      (secondary.getLsbD 15 = false → ∃ n, r.secondary = some n ∧ n.val = min 7 (lowByte secondary).toNat) ∧
      r.trim = trim.toNat ∧ r.exempt = flags.getLsbD 0 ∧ r.participating = flags.getLsbD 1 ∧
      exec (.writeRoute tag [word i.val, primary, secondary, trim, flags]) s =
        .next (replied .writeRoute tag .ok (word i.val :: routeWords r)
          { consumePermit s with ort := { s.ort with routes := upd s.ort.routes i r } })) ∧
  ∀ (tag action : Word) (s : State), Clear .setPanic s →
    let panic := if action.toNat = 0 then false else if action.toNat = 1 then true else !s.ort.panic
    exec (.setPanic tag [action]) s = .next (replied .setPanic tag .ok [flagWord panic]
      { consumePermit s with ort := { s.ort with panic := panic } })

/-- The owner of every slot is the first claimant of Table 7-2; a change of owner starts a ramp from the owner held
before, whose first frame gives that owner's sample; the output is the ramped sample at the slot's trim; and a ramp that
has reached 64 ends, its k then at 0 by log entry 8 (R135, R136, R137, R138, R139). That a chain which the governor has
bypassed claims its slots, with the ramp, also when none of its contexts runs is the model's choice of log entry 37. -/
def Obligations.OwnersFollowThePrecedenceAndRamp : Prop :=
  (∀ (panic : Bool) (mute : Fin 4 → Bool) (outputs : Vector (Option (Int × Int)) 4) (r : Route),
    let owner := ownerOf panic mute outputs r
    (panic = true → r.participating = true → owner = .panic r.secondary) ∧
    ((panic = false ∨ r.participating = false) →
      let low : Source := match r.secondary with
        | some i => .direct i
        | none => .fill
      (r.primary = none → owner = low) ∧
      ∀ p, r.primary = some p →
        (mute p.1 = true → r.exempt = false → owner = .tuner p.1) ∧
        ((mute p.1 = false ∨ r.exempt = true) → outputs[p.1] ≠ none → owner = .chain p.1 p.2) ∧
        ((mute p.1 = false ∨ r.exempt = true) → outputs[p.1] = none → owner = low))) ∧
  (∀ (inbound : Vector Int 8) (s : State) (i : Fin 8),
    let t := routerFrame inbound s
    let held := s.ort.owners[i]
    let sample := sourceSample inbound s.chp.outputs
    let output (ramped : Int) : Int := saturate ((ramped * s.ort.routes[i].trim + 16384) / 32768)
    t.ort.owners[i].owner = ownerOf s.ort.panic s.tun.mute s.chp.outputs s.ort.routes[i] ∧
    (t.ort.owners[i].owner = held.owner → t.ort.owners[i].outgoing = held.outgoing ∧
      (held.outgoing = none → t.lif.newer[i] = output (sample held.owner)) ∧
      ∀ out, held.outgoing = some out → t.ort.owners[i].k = held.k + 1 ∧
        t.lif.newer[i] = output ((sample out * (64 - held.k) + sample held.owner * held.k + 32) / 64)) ∧
    (t.ort.owners[i].owner ≠ held.owner → t.ort.owners[i].outgoing = some held.owner ∧ t.ort.owners[i].k = 1 ∧
      t.lif.newer[i] = output (sample held.owner))) ∧
  ∀ (i : Fin 8) (s : State), s.ort.owners[i].outgoing ≠ none → 64 ≤ s.ort.owners[i].k → exec (.rampEnd i) s =
    .next { s with ort := { s.ort with owners := upd s.ort.owners i ⟨s.ort.owners[i].owner, none, 0⟩ } }

/-! ### The governor and the supply guard -/

/-- A governor evaluation begins from the requested state and takes the steps of the five passes in their order, each pass
until the demand fits or it has no candidate (R155 to R160); it leaves a demand within the budget, takes no step when the
requested state fits, and leaves the stored records and the processing state of every LIVE context that is not fading to
silence (R155). It touches nothing but contexts, fades, blocks, its own marks and mailbox 5, which it always writes, and
GOVERN, which it sets when a mark has changed, a dip or a cut has been taken (R162). A load that its chain bypass lets
start starts at once, which is the model's choice of log entry 22; so are, by log entry 19, that the requested demand is
that of the state before the passes, by log entry 25, that the fade of a context cut while it fades to silence is NONE at
once, by log entry 4, the F and k that the record then holds, and by log entry 3, what the contexts of a bypassed chain
hold as they go to IDLE. -/
def Obligations.EvaluationsFitTheBudget : Prop :=
  ∀ s : State, quiet s = true → s.lif.state.processing = true → switchDue s = false → s.bgv.evaluate = true →
    ∃ t : State, exec .governorEvaluation s = .next t ∧ t.budget = s.budget ∧ t.runSet.demand ≤ s.budget ∧
      (loadDue (evaluateMarks s) = false → t = evaluateMarks s ∧ t.bgv.evaluate = false) ∧
      (loadDue (evaluateMarks s) = true → exec .loadStart (evaluateMarks s) = .next t) ∧
      ((∀ (c : Fin 4) (x : Fin 2), (s.scc.ctx c x).stages.length ≤ 12) → ∃ e : Course,
        Passes15 s.budget s.runSet.atRequest e ∧
        (∀ (c : Fin 4) (x : Fin 2), e.set.bypass[c] = true →
          e.set.ctxs[c][x].state = .live ∨ e.set.ctxs[c][x] = Ctx.empty) ∧
        let dips := min 255 (s.bgv.dips + e.dips)
        let cuts := min 255 (s.bgv.cuts + e.cuts)
        let u : State := { s with
          scc := { s.scc with ctxs := e.set.ctxs, fades := e.set.fades }
          dpl := { s.dpl with free := e.set.free }
          bgv := { s.bgv with
            bypass := e.set.bypass, halvings := e.halvings, sheds := e.sheds, dips := dips, cuts := cuts
            requestedDemand := s.runSet.atRequest.demand, demand := e.set.demand, evaluate := false }
          lct := { s.lct with boxes := { s.lct.boxes with governor :=
            ⟨⟨s.budget, s.runSet.atRequest.demand, e.set.demand, s.bgv.guardState, s.bgv.force, e.halvings, e.sheds,
              e.set.bypass, dips, cuts⟩, true⟩ } } }
        let changed : Prop := e.halvings ≠ s.bgv.halvings ∨ e.sheds ≠ s.bgv.sheds ∨ e.set.bypass ≠ s.bgv.bypass ∨
          0 < e.dips ∨ 0 < e.cuts
        (changed → evaluateMarks s = raise .govern u) ∧ (¬ changed → evaluateMarks s = u)) ∧
      (∀ (c : Fin 4) (x : Fin 2), (s.scc.ctx c x).state = .live → s.scc.fades[c].kind ≠ .fadeOut →
        (t.scc.ctx c x).state = .live ∧ (t.scc.ctx c x).pan = (s.scc.ctx c x).pan ∧
        (t.scc.ctx c x).stages.map Stage.record = (s.scc.ctx c x).stages.map Stage.record ∧
        (t.scc.ctx c x).stages.map Stage.proc = (s.scc.ctx c x).stages.map Stage.proc ∧
        (t.scc.ctx c x).stages.map Stage.blocks = (s.scc.ctx c x).stages.map Stage.blocks) ∧
      (s.runSet.atRequest.demand ≤ s.budget → t.scc.ctxs = mapCtxs Ctx.atRequest s.scc.ctxs ∧
        t.scc.fades = s.scc.fades ∧ t.dpl = s.dpl ∧ t.bgv.halvings = 0 ∧ t.bgv.sheds = 0 ∧
        (∀ c : Fin 4, t.bgv.bypass[c] = false) ∧ t.bgv.dips = min 255 s.bgv.dips ∧ t.bgv.cuts = min 255 s.bgv.cuts) ∧
      t.dpl.mem = s.dpl.mem ∧ t.scc.scenes = s.scc.scenes ∧ t.scc.stack = s.scc.stack ∧ t.scc.live = s.scc.live ∧
      t.chp = s.chp ∧ t.tfu = s.tfu ∧ t.tun = s.tun ∧ t.ort = s.ort ∧ t.lif = s.lif ∧ t.pending = s.pending ∧
      t.bgv.guardState = s.bgv.guardState ∧ t.lct.queue = s.lct.queue ∧ t.lct.counters = s.lct.counters

/-- *Force Guard On* and *Force Guard Off* move the guard state, with SUPPLY, mailbox 5 and an evaluation at every guard
entry and exit, and mailbox 5 alone at a change that is neither (R164, R165). The words of the guard state and of the
force flag in the replies are log entry 13's (DEDUCED); that the reply is in the queue before SUPPLY joins the pending set,
so that no notice comes before it, is log entry 41's (DESIGN CHOICE). Frames are being processed. -/
def Obligations.ForceParcelsMoveTheGuard : Prop :=
  ∀ (tag : Word) (s : State), s.lif.state.processing = true →
    let u := consumePermit s
    let set (g : GuardState) (force : Bool) (n : Nat) : State :=
      { u with bgv := { s.bgv with guardState := g, force := force, recovery := n } }
    let moved (t : State) : State := markEvaluation (writeGovernorBox (raise .supply t))
    let on (t : State) : Prop := exec (.forceGuardOn tag []) s = .next (replied .forceGuardOn tag .ok [2, 1] t)
    let off (g : Word) (t : State) : Prop :=
      exec (.forceGuardOff tag []) s = .next (replied .forceGuardOff tag .ok [g, 0] t)
    (Clear .forceGuardOn s →
      (s.bgv.guardState = .normal → on (moved (set .forced true 0))) ∧
      (s.bgv.guardState = .auto → on (writeGovernorBox (set .forced true 0))) ∧
      (s.bgv.guardState = .forced → on (set .forced true 0))) ∧
    (Clear .forceGuardOff s →
      (s.bgv.guardState = .forced → ∀ n, s.bgv.reading = some n → n < 455 →
        off 1 (writeGovernorBox (set .auto false 0))) ∧
      (s.bgv.guardState = .forced → (∀ n, s.bgv.reading = some n → 455 ≤ n) → off 0 (moved (set .normal false 0))) ∧
      (s.bgv.guardState = .normal → off 0 (set .normal false s.bgv.recovery)) ∧
      (s.bgv.guardState = .auto → off 1 (set .auto false s.bgv.recovery)))

/-- *Supply Check* joins a measurement that runs or is due at the next tick, and otherwise chooses the next tick; the start
and the reading follow: c1 and c2 are clamped, the reading is their rounded sum over ten, mailbox 8 is written and the
guard moves by the table of R164 (R163, R164). That mailbox 8 carries the recovery count as it stood before the reading
is log entry 20's, and which of two measurements a check joins log entry 40's. Frames are being processed. -/
def Obligations.SupplyMeasurementMovesTheGuard : Prop :=
  (∀ (tag : Word) (s : State), Clear .supplyCheck s → s.bgv.running = none → s.bgv.starting = none →
    exec (.supplyCheck tag []) s = .next (replied .supplyCheck tag .ok
      [if s.bgv.request ∨ 249 ≤ s.bgv.schedule then 1 else 0]
      { consumePermit s with bgv := { s.bgv with request := true } })) ∧
  (∀ (tag : Word) (c : MeasureCause) (s : State), Clear .supplyCheck s → s.bgv.running = some c →
    exec (.supplyCheck tag []) s = .next (replied .supplyCheck tag .ok [1]
      { consumePermit s with bgv := { s.bgv with running := some ⟨c.periodic, true⟩ } })) ∧
  (∀ s : State, s.bgv.starting ≠ none → s.bgv.running = none → exec .measurementStart s =
    .next { s with bgv := { s.bgv with running := s.bgv.starting, starting := none } }) ∧
  ∀ (c1 c2 : Int) (cause : MeasureCause) (s : State), quiet s = true → s.lif.state.processing = true →
    s.bgv.running = some cause →
    let a := max 0 (min 3250 c1.toNat)
    let b := max 0 (min 3250 c2.toNat)
    let n := (a + b + 5) / 10
    let set (g : GuardState) (recovery : Nat) : State := { s with
      bgv := { s.bgv with running := none, reading := some n, guardState := g, recovery := recovery }
      lct := { s.lct with boxes := { s.lct.boxes with
        supply := ⟨⟨some n, a, b, cause, s.bgv.recovery⟩, true⟩ } } }
    let moved (t : State) : State := markEvaluation (writeGovernorBox (raise .supply t))
    let run := exec (.supplyReading c1 c2) s
    (s.bgv.guardState = .normal → n < 455 → run = .next (moved (set .auto 0))) ∧
    (s.bgv.guardState = .normal → 455 ≤ n → run = .next (set .normal s.bgv.recovery)) ∧
    (s.bgv.guardState = .auto → 470 ≤ n → s.bgv.recovery = 0 → run = .next (set .auto 1)) ∧
    (s.bgv.guardState = .auto → 470 ≤ n → s.bgv.recovery ≠ 0 → run = .next (moved (set .normal 0))) ∧
    (s.bgv.guardState = .auto → n < 470 → run = .next (set .auto 0)) ∧
    (s.bgv.guardState = .forced → run = .next (set .forced s.bgv.recovery))

/-! ### The link -/

/-- The link enters MEASURE from SEARCH; a complete count locks at the rate whose window holds it, rescaling the period at
a new rate, and a count in no window is an unsupported rate; idle frames are sent outside LOCKED and HOLDOVER (R101, R168,
R169, R176). That the rate watch's first span starts at the position that ended the measurement is the model's choice of
log entry 42. -/
def Obligations.MeasurementsLockOrAreUnsupported : Prop :=
  ∀ s : State, quiet s = true →
    let told (state : LinkState) (rate : Option Rate) : Box LinkRecord :=
      ⟨⟨state, rate, s.lct.counters.slips, s.lct.counters.frameChecks⟩, true⟩
    (s.lif.state = .search → exec .enterMeasure s = .next { s with
      lif := { s.lif with state := .measure }
      lct := { s.lct with
        notices := s.lct.notices ||| 0x01
        boxes := { s.lct.boxes with link := told .measure s.lif.rate } } }) ∧
    (s.lif.state = .measure → ∀ count : Nat,
      (∀ r ∈ [44100, 48000, 88200, 96000], 199 * r * count ≤ 314572800000 → 201 * r * count < 314572800000) →
      exec (.measurementComplete count) s = .next { s with lct := { s.lct with
        counters := { s.lct.counters with unsupported := min 65535 (s.lct.counters.unsupported + 1) } } }) ∧
    (s.lif.state = .measure → ∀ (count : Nat) (r : Rate), 199 * r.hz * count ≤ 314572800000 →
      314572800000 ≤ 201 * r.hz * count → ∃ t : State, exec (.measurementComplete count) s = .next t ∧
        t.lif = { s.lif with state := .locked, rate := some r, count := some count, expected := none, misses := 0,
                             periods := 0, span := 0, older := silence, newer := silence } ∧
        t.lct.notices = s.lct.notices ||| 0x01 ∧ t.lct.boxes.link = told .locked (some r) ∧
        t.lct.queue = s.lct.queue ∧ t.lct.hold = s.lct.hold ∧ t.lct.counters = s.lct.counters ∧
        t.chp = s.chp ∧ t.dpl = s.dpl ∧ t.scc = s.scc ∧ t.tun = s.tun ∧ t.ort = s.ort ∧ t.pending = s.pending ∧
        (r.hz = s.hz → t.tfu = s.tfu ∧ t.bgv = s.bgv) ∧
        (r.hz ≠ s.hz →
          t.tfu.period = max (r.hz / 4) (min (2 * r.hz) ((s.tfu.period * r.hz + s.hz / 2) / s.hz)) ∧
          t.tfu.phase = s.tfu.phase * t.tfu.period / s.tfu.period ∧ t.tfu.source = .rescale ∧ t.tfu.taps = [] ∧
          t.tfu.previousTap = none ∧ t.tfu.group = s.tfu.group ∧ t.tfu.beats = s.tfu.beats ∧
          t.tfu.lines = s.tfu.lines ∧ t.tfu.log = s.tfu.log ∧ t.tfu.tick = s.tfu.tick ∧
          t.bgv = { s.bgv with evaluate := true })) ∧
    ((s.lif.state = .search ∨ s.lif.state = .measure) →
      let number := s.lif.outNumber + 1
      exec .idleFrame s = .next { s with lif := { s.lif with
        outNumber := number
        sent := some ⟨number, Vector.replicate 8 0, 0, checkByte number (Vector.replicate 8 0) 0⟩ } })

/-- A frame at an expected position in LOCKED. The position is counted in its span of 64, which run back to back (R170): `v`.
Its lane word leaves first, and the held parcels for which that makes room
execute: `u` is the state they leave. A switch, a pending request, an evaluation and a tempo reset that are due come next,
as their rows take them: `w` is the state they leave (R81, R102, R154). A good frame is then processed on its own samples,
sets the hold samples and the expected number, counts a slip against an older expectation, and gives its lane word to the
assembler; one that fails its check, and a first or second missing sync, are concealed (R121, R140, R143, R170, R171, R172,
R176, R180, R182, R184). GOVERNOR_EVALUATION and TEMPO_RESET_TAKEN
take the same steps in the same order. The order lane word, held parcels, rows, frame is the model's choice of log entry
16, that a pending request's own switch comes before the same frame log entry 33's, that a switch which the evaluation
itself makes due waits for the next frame log entry 38's, and that what one moment does to several channels sets TUNER
once, behind a notice that is due, log entry 41's. -/
def Obligations.LockedFramesAreProcessedOrConcealed : Prop :=
  (∀ s : State, quiet s = true → s.lif.state = .locked →
    let v : State := { s with lif := { s.lif with span := if s.lif.span < 64 then s.lif.span + 1 else 1 } }
    let lane := (laneOut v).1
    let u := (laneOut v).2
    u.lif = { v.lif with inFormat := u.lif.inFormat, outFormat := u.lif.outFormat } ∧
      u.lct.arrived = none ∧ u.lct.assembler = s.lct.assembler ∧
      ∃ w : State, FrameStart u w ∧
        (∀ f : Frame, frameGood f = true → ∃ t : State, exec (.frameReceived f) s = .next t ∧ Received lane f w t) ∧
        (∀ f : Frame, frameGood f = false → ∃ t : State, exec (.frameReceived f) s = .next t ∧ Concealed lane w t ∧
          t.lif.misses = 0) ∧
        (s.lif.misses < 2 → ∃ t : State, exec .missingSync s = .next t ∧ Concealed lane w t ∧
          t.lif.misses = s.lif.misses + 1)) ∧
  ∀ s : State, s.lif.state.processing = true →
    ((∀ e ∈ contextEvents, due e s = false) → pendingStartDue s = true →
      exec .pendingRequestStart s = .next (takePendingStart s)) ∧
    (quiet s = true →
      (switchDue s = true → exec .switch s = .next (takeSwitch s)) ∧
      (∃ t : State, RowsBeforeReset s t ∧ exec .governorEvaluation s = .next t) ∧
      ∃ t : State, RowsBeforeFrame s t ∧ exec .tempoResetTaken s = .next t)

/-- The third missing sync enters HOLDOVER, with LINK and mailbox 7, and is its first period; an own period counts and is
processed on silence; and a return goes back to LOCKED at the same rate, with LINK and mailbox 7, and with the frame at the
second position, received or concealed as in LOCKED (R173, R174, R176, R179). In each the lane word leaves, held parcels
execute, and the switch, the pending request, the evaluation and the tempo reset that are due are taken, after the change
of state and before the frame. The third miss ends the span of the rate watch, and a return starts a new one at its
position (R173, R174). The order is the model's choice of log entry 16; that MISSING_SYNC does at the third miss what
ENTER_HOLDOVER does is log entry 26's; that a pending request's own switch comes before the same frame is log entry 33's;
that a notice of LINK can leave with the frame of the change itself, and that TUNER is set once, is log entry 41's; and
that a switch which the evaluation makes due waits is log entry 38's. -/
def Obligations.HoldoverRunsOnSilenceAndReturns : Prop :=
  ∀ s : State, quiet s = true →
    let told (state : LinkState) : Lct := { s.lct with
      notices := s.lct.notices ||| 0x01
      boxes := { s.lct.boxes with
        link := ⟨⟨state, s.lif.rate, s.lct.counters.slips, s.lct.counters.frameChecks⟩, true⟩ } }
    let formats (v u : State) : Prop := u.lif = { v.lif with inFormat := u.lif.inFormat, outFormat := u.lif.outFormat }
    (let v : State := { s with
      lif := { s.lif with state := .holdover, expected := none, held := silence, misses := 0, periods := 1, span := 0 }
      lct := { told .holdover with assembler := .outside } }
    s.lif.state = .locked → 2 ≤ s.lif.misses → formats v (laneOut v).2 ∧ ∃ w : State, FrameStart (laneOut v).2 w ∧
      ∀ c ∈ [Instr.missingSync, .enterHoldover], ∃ t : State, exec c s = .next t ∧ Silent (laneOut v).1 w t) ∧
    (let v : State := { s with lif := { s.lif with periods := s.lif.periods + 1 } }
    s.lif.state = .holdover → formats v (laneOut v).2 ∧ ∃ w t : State, FrameStart (laneOut v).2 w ∧
      exec .holdoverPeriod s = .next t ∧ Silent (laneOut v).1 w t) ∧
    (let v : State := { s with
      lif := { s.lif with state := .locked, expected := none, misses := 0, periods := 0, span := 0 }
      lct := told .locked }
    s.lif.state = .holdover → formats v (laneOut v).2 ∧ ∃ w : State, FrameStart (laneOut v).2 w ∧
      ∀ f : Frame, ∃ t : State, exec (.holdoverReturn f) s = .next t ∧
        (frameGood f = true → Received (laneOut v).1 f w t) ∧
        (frameGood f = false → Concealed (laneOut v).1 w t ∧ t.lif.misses = 0))

/-- The link enters SEARCH, with every block's response, at a rate departure and at the end of the 32nd period of
HOLDOVER, which are link losses, and at a missing sync in MEASURE, which is none; the rate watch tests the count of a span
once 64 positions of it are taken, one within the window of the locked rate has no effect but that the next span starts,
and before the end of a span no count does anything (R8, R53, R56, R90, R130, R140, R154, R169, R170, R175). What an IDLE context holds is log entry 3's, F
and k of a fade at NONE log entry 4's, and the k of a slot without a ramp log entry 8's. The model's choices are further
that one evaluation follows all the responses and answers one that still waited (log entry 21), that none follows without
a change of context state or one that waited (log entry 36), the order in which LINK, SCENE, TUNER and GOVERN join and
their notices are queued (log entry 41), that the inbound hold is not tested as words leave the queue (log entry 17),
and that the frame of a span's last position is processed before its count is tested (log entry 42). -/
def Obligations.SearchIsEnteredWithEveryResponse : Prop :=
  let lost (s t : State) : Prop := SearchEntered s t ∧
    t.lct.counters = { s.lct.counters with losses := min 65535 (s.lct.counters.losses + 1) }
  (∀ (count : Nat) (r : Rate) (s : State), quiet s = true → s.lif.state = .locked → s.lif.rate = some r →
    (s.lif.span ≠ 64 → exec (.rateDeparture count) s = .next s) ∧
    (s.lif.span = 64 → 199 * r.hz * count ≤ 314572800000 → 314572800000 ≤ 201 * r.hz * count →
      exec (.rateDeparture count) s = .next { s with lif := { s.lif with span := 0 } }) ∧
    (s.lif.span = 64 → (314572800000 < 199 * r.hz * count ∨ 201 * r.hz * count < 314572800000) →
      ∃ t : State, exec (.rateDeparture count) s = .next t ∧ lost s t)) ∧
  (∀ s : State, (∀ e ∈ settleOrder.takeWhile (· ≠ .holdoverExpiry), due e s = false) → s.lif.state = .holdover →
    32 ≤ s.lif.periods → ∃ t : State, exec .holdoverExpiry s = .next t ∧ lost s t) ∧
  ∀ s : State, quiet s = true → s.lif.state = .measure → ∃ t : State, exec .measureSyncMissing s = .next t ∧
    SearchEntered s t ∧ t.lct.counters = s.lct.counters
end

