-- ==== Sys2Proof/Laws/State.lean ====
section
/-! SUPPORT. What each update of the state leaves in each field, one lemma for each field, all true by computation. -/

namespace Sys2Proof.Machine

variable (s : State)

@[simp] theorem setClass_lif (k : NoticeClass) : (setClass k s).lif = s.lif := rfl
@[simp] theorem setClass_lct (k : NoticeClass) : (setClass k s).lct = { s.lct with notices := s.lct.notices ||| k.bit } := rfl
@[simp] theorem setClass_chp (k : NoticeClass) : (setClass k s).chp = s.chp := rfl
@[simp] theorem setClass_dpl (k : NoticeClass) : (setClass k s).dpl = s.dpl := rfl
@[simp] theorem setClass_scc (k : NoticeClass) : (setClass k s).scc = s.scc := rfl
@[simp] theorem setClass_tfu (k : NoticeClass) : (setClass k s).tfu = s.tfu := rfl
@[simp] theorem setClass_tun (k : NoticeClass) : (setClass k s).tun = s.tun := rfl
@[simp] theorem setClass_ort (k : NoticeClass) : (setClass k s).ort = s.ort := rfl
@[simp] theorem setClass_bgv (k : NoticeClass) : (setClass k s).bgv = s.bgv := rfl
@[simp] theorem setClass_pending (k : NoticeClass) : (setClass k s).pending = s.pending := rfl

@[simp] theorem takeNotice_lif : (takeNotice s).lif = s.lif := rfl
@[simp] theorem takeNotice_lct : (takeNotice s).lct = { s.lct with queue := s.lct.queue ++ [parcelWords noticeKind 0 [classWord (noticeClasses s)]], notices := s.lct.notices &&& ~~~s.lct.mask, headSent := false } := rfl
@[simp] theorem takeNotice_chp : (takeNotice s).chp = s.chp := rfl
@[simp] theorem takeNotice_dpl : (takeNotice s).dpl = s.dpl := rfl
@[simp] theorem takeNotice_scc : (takeNotice s).scc = s.scc := rfl
@[simp] theorem takeNotice_tfu : (takeNotice s).tfu = s.tfu := rfl
@[simp] theorem takeNotice_tun : (takeNotice s).tun = s.tun := rfl
@[simp] theorem takeNotice_ort : (takeNotice s).ort = s.ort := rfl
@[simp] theorem takeNotice_bgv : (takeNotice s).bgv = s.bgv := rfl
@[simp] theorem takeNotice_pending : (takeNotice s).pending = s.pending := rfl

@[simp] theorem setQueue_lif (q : List (List Word)) : (setQueue q s).lif = s.lif := rfl
@[simp] theorem setQueue_lct (q : List (List Word)) : (setQueue q s).lct = { s.lct with queue := q } := rfl
@[simp] theorem setQueue_chp (q : List (List Word)) : (setQueue q s).chp = s.chp := rfl
@[simp] theorem setQueue_dpl (q : List (List Word)) : (setQueue q s).dpl = s.dpl := rfl
@[simp] theorem setQueue_scc (q : List (List Word)) : (setQueue q s).scc = s.scc := rfl
@[simp] theorem setQueue_tfu (q : List (List Word)) : (setQueue q s).tfu = s.tfu := rfl
@[simp] theorem setQueue_tun (q : List (List Word)) : (setQueue q s).tun = s.tun := rfl
@[simp] theorem setQueue_ort (q : List (List Word)) : (setQueue q s).ort = s.ort := rfl
@[simp] theorem setQueue_bgv (q : List (List Word)) : (setQueue q s).bgv = s.bgv := rfl
@[simp] theorem setQueue_pending (q : List (List Word)) : (setQueue q s).pending = s.pending := rfl

@[simp] theorem executing_lif : (executing s).lif = s.lif := rfl
@[simp] theorem executing_lct : (executing s).lct = { s.lct with queue := s.lct.queue ++ [[]] } := rfl
@[simp] theorem executing_chp : (executing s).chp = s.chp := rfl
@[simp] theorem executing_dpl : (executing s).dpl = s.dpl := rfl
@[simp] theorem executing_scc : (executing s).scc = s.scc := rfl
@[simp] theorem executing_tfu : (executing s).tfu = s.tfu := rfl
@[simp] theorem executing_tun : (executing s).tun = s.tun := rfl
@[simp] theorem executing_ort : (executing s).ort = s.ort := rfl
@[simp] theorem executing_bgv : (executing s).bgv = s.bgv := rfl
@[simp] theorem executing_pending : (executing s).pending = s.pending := rfl

@[simp] theorem setCounters_lif (f : Counters → Counters) : (setCounters f s).lif = s.lif := rfl
@[simp] theorem setCounters_lct (f : Counters → Counters) : (setCounters f s).lct = { s.lct with counters := f s.lct.counters } := rfl
@[simp] theorem setCounters_chp (f : Counters → Counters) : (setCounters f s).chp = s.chp := rfl
@[simp] theorem setCounters_dpl (f : Counters → Counters) : (setCounters f s).dpl = s.dpl := rfl
@[simp] theorem setCounters_scc (f : Counters → Counters) : (setCounters f s).scc = s.scc := rfl
@[simp] theorem setCounters_tfu (f : Counters → Counters) : (setCounters f s).tfu = s.tfu := rfl
@[simp] theorem setCounters_tun (f : Counters → Counters) : (setCounters f s).tun = s.tun := rfl
@[simp] theorem setCounters_ort (f : Counters → Counters) : (setCounters f s).ort = s.ort := rfl
@[simp] theorem setCounters_bgv (f : Counters → Counters) : (setCounters f s).bgv = s.bgv := rfl
@[simp] theorem setCounters_pending (f : Counters → Counters) : (setCounters f s).pending = s.pending := rfl

@[simp] theorem setBoxes_lif (f : Mailboxes → Mailboxes) : (setBoxes f s).lif = s.lif := rfl
@[simp] theorem setBoxes_lct (f : Mailboxes → Mailboxes) : (setBoxes f s).lct = { s.lct with boxes := f s.lct.boxes } := rfl
@[simp] theorem setBoxes_chp (f : Mailboxes → Mailboxes) : (setBoxes f s).chp = s.chp := rfl
@[simp] theorem setBoxes_dpl (f : Mailboxes → Mailboxes) : (setBoxes f s).dpl = s.dpl := rfl
@[simp] theorem setBoxes_scc (f : Mailboxes → Mailboxes) : (setBoxes f s).scc = s.scc := rfl
@[simp] theorem setBoxes_tfu (f : Mailboxes → Mailboxes) : (setBoxes f s).tfu = s.tfu := rfl
@[simp] theorem setBoxes_tun (f : Mailboxes → Mailboxes) : (setBoxes f s).tun = s.tun := rfl
@[simp] theorem setBoxes_ort (f : Mailboxes → Mailboxes) : (setBoxes f s).ort = s.ort := rfl
@[simp] theorem setBoxes_bgv (f : Mailboxes → Mailboxes) : (setBoxes f s).bgv = s.bgv := rfl
@[simp] theorem setBoxes_pending (f : Mailboxes → Mailboxes) : (setBoxes f s).pending = s.pending := rfl

@[simp] theorem putCtx_lif (c : Fin 4) (x : Fin 2) (k : Ctx) : (putCtx c x k s).lif = s.lif := rfl
@[simp] theorem putCtx_lct (c : Fin 4) (x : Fin 2) (k : Ctx) : (putCtx c x k s).lct = s.lct := rfl
@[simp] theorem putCtx_chp (c : Fin 4) (x : Fin 2) (k : Ctx) : (putCtx c x k s).chp = s.chp := rfl
@[simp] theorem putCtx_dpl (c : Fin 4) (x : Fin 2) (k : Ctx) : (putCtx c x k s).dpl = s.dpl := rfl
@[simp] theorem putCtx_scc (c : Fin 4) (x : Fin 2) (k : Ctx) : (putCtx c x k s).scc = { s.scc with ctxs := setCtx s.scc.ctxs c x k } := rfl
@[simp] theorem putCtx_tfu (c : Fin 4) (x : Fin 2) (k : Ctx) : (putCtx c x k s).tfu = s.tfu := rfl
@[simp] theorem putCtx_tun (c : Fin 4) (x : Fin 2) (k : Ctx) : (putCtx c x k s).tun = s.tun := rfl
@[simp] theorem putCtx_ort (c : Fin 4) (x : Fin 2) (k : Ctx) : (putCtx c x k s).ort = s.ort := rfl
@[simp] theorem putCtx_bgv (c : Fin 4) (x : Fin 2) (k : Ctx) : (putCtx c x k s).bgv = s.bgv := rfl
@[simp] theorem putCtx_pending (c : Fin 4) (x : Fin 2) (k : Ctx) : (putCtx c x k s).pending = s.pending := rfl

@[simp] theorem setFade_lif (c : Fin 4) (f : Fade) : (setFade c f s).lif = s.lif := rfl
@[simp] theorem setFade_lct (c : Fin 4) (f : Fade) : (setFade c f s).lct = s.lct := rfl
@[simp] theorem setFade_chp (c : Fin 4) (f : Fade) : (setFade c f s).chp = s.chp := rfl
@[simp] theorem setFade_dpl (c : Fin 4) (f : Fade) : (setFade c f s).dpl = s.dpl := rfl
@[simp] theorem setFade_scc (c : Fin 4) (f : Fade) : (setFade c f s).scc = { s.scc with fades := upd s.scc.fades c f } := rfl
@[simp] theorem setFade_tfu (c : Fin 4) (f : Fade) : (setFade c f s).tfu = s.tfu := rfl
@[simp] theorem setFade_tun (c : Fin 4) (f : Fade) : (setFade c f s).tun = s.tun := rfl
@[simp] theorem setFade_ort (c : Fin 4) (f : Fade) : (setFade c f s).ort = s.ort := rfl
@[simp] theorem setFade_bgv (c : Fin 4) (f : Fade) : (setFade c f s).bgv = s.bgv := rfl
@[simp] theorem setFade_pending (c : Fin 4) (f : Fade) : (setFade c f s).pending = s.pending := rfl

@[simp] theorem releaseBlocks_lif (b : List Nat) : (releaseBlocks b s).lif = s.lif := rfl
@[simp] theorem releaseBlocks_lct (b : List Nat) : (releaseBlocks b s).lct = s.lct := rfl
@[simp] theorem releaseBlocks_chp (b : List Nat) : (releaseBlocks b s).chp = s.chp := rfl
@[simp] theorem releaseBlocks_dpl (b : List Nat) : (releaseBlocks b s).dpl = { s.dpl with free := freeBlocks b s.dpl.free } := rfl
@[simp] theorem releaseBlocks_scc (b : List Nat) : (releaseBlocks b s).scc = s.scc := rfl
@[simp] theorem releaseBlocks_tfu (b : List Nat) : (releaseBlocks b s).tfu = s.tfu := rfl
@[simp] theorem releaseBlocks_tun (b : List Nat) : (releaseBlocks b s).tun = s.tun := rfl
@[simp] theorem releaseBlocks_ort (b : List Nat) : (releaseBlocks b s).ort = s.ort := rfl
@[simp] theorem releaseBlocks_bgv (b : List Nat) : (releaseBlocks b s).bgv = s.bgv := rfl
@[simp] theorem releaseBlocks_pending (b : List Nat) : (releaseBlocks b s).pending = s.pending := rfl

@[simp] theorem writeSceneBox_lif : (writeSceneBox s).lif = s.lif := rfl
@[simp] theorem writeSceneBox_lct : (writeSceneBox s).lct = { s.lct with boxes := { s.lct.boxes with scene := Box.write (sceneRecord s) } } := rfl
@[simp] theorem writeSceneBox_chp : (writeSceneBox s).chp = s.chp := rfl
@[simp] theorem writeSceneBox_dpl : (writeSceneBox s).dpl = s.dpl := rfl
@[simp] theorem writeSceneBox_scc : (writeSceneBox s).scc = s.scc := rfl
@[simp] theorem writeSceneBox_tfu : (writeSceneBox s).tfu = s.tfu := rfl
@[simp] theorem writeSceneBox_tun : (writeSceneBox s).tun = s.tun := rfl
@[simp] theorem writeSceneBox_ort : (writeSceneBox s).ort = s.ort := rfl
@[simp] theorem writeSceneBox_bgv : (writeSceneBox s).bgv = s.bgv := rfl
@[simp] theorem writeSceneBox_pending : (writeSceneBox s).pending = s.pending := rfl

@[simp] theorem writeTempoBox_lif : (writeTempoBox s).lif = s.lif := rfl
@[simp] theorem writeTempoBox_lct : (writeTempoBox s).lct = { s.lct with boxes := { s.lct.boxes with tempo := Box.write (tempoRecord s) } } := rfl
@[simp] theorem writeTempoBox_chp : (writeTempoBox s).chp = s.chp := rfl
@[simp] theorem writeTempoBox_dpl : (writeTempoBox s).dpl = s.dpl := rfl
@[simp] theorem writeTempoBox_scc : (writeTempoBox s).scc = s.scc := rfl
@[simp] theorem writeTempoBox_tfu : (writeTempoBox s).tfu = s.tfu := rfl
@[simp] theorem writeTempoBox_tun : (writeTempoBox s).tun = s.tun := rfl
@[simp] theorem writeTempoBox_ort : (writeTempoBox s).ort = s.ort := rfl
@[simp] theorem writeTempoBox_bgv : (writeTempoBox s).bgv = s.bgv := rfl
@[simp] theorem writeTempoBox_pending : (writeTempoBox s).pending = s.pending := rfl

@[simp] theorem writeGovernorBox_lif : (writeGovernorBox s).lif = s.lif := rfl
@[simp] theorem writeGovernorBox_lct : (writeGovernorBox s).lct = { s.lct with boxes := { s.lct.boxes with governor := Box.write (governorRecord s) } } := rfl
@[simp] theorem writeGovernorBox_chp : (writeGovernorBox s).chp = s.chp := rfl
@[simp] theorem writeGovernorBox_dpl : (writeGovernorBox s).dpl = s.dpl := rfl
@[simp] theorem writeGovernorBox_scc : (writeGovernorBox s).scc = s.scc := rfl
@[simp] theorem writeGovernorBox_tfu : (writeGovernorBox s).tfu = s.tfu := rfl
@[simp] theorem writeGovernorBox_tun : (writeGovernorBox s).tun = s.tun := rfl
@[simp] theorem writeGovernorBox_ort : (writeGovernorBox s).ort = s.ort := rfl
@[simp] theorem writeGovernorBox_bgv : (writeGovernorBox s).bgv = s.bgv := rfl
@[simp] theorem writeGovernorBox_pending : (writeGovernorBox s).pending = s.pending := rfl

@[simp] theorem writeLinkBox_lif : (writeLinkBox s).lif = s.lif := rfl
@[simp] theorem writeLinkBox_lct : (writeLinkBox s).lct = { s.lct with boxes := { s.lct.boxes with link := Box.write (linkRecord s) } } := rfl
@[simp] theorem writeLinkBox_chp : (writeLinkBox s).chp = s.chp := rfl
@[simp] theorem writeLinkBox_dpl : (writeLinkBox s).dpl = s.dpl := rfl
@[simp] theorem writeLinkBox_scc : (writeLinkBox s).scc = s.scc := rfl
@[simp] theorem writeLinkBox_tfu : (writeLinkBox s).tfu = s.tfu := rfl
@[simp] theorem writeLinkBox_tun : (writeLinkBox s).tun = s.tun := rfl
@[simp] theorem writeLinkBox_ort : (writeLinkBox s).ort = s.ort := rfl
@[simp] theorem writeLinkBox_bgv : (writeLinkBox s).bgv = s.bgv := rfl
@[simp] theorem writeLinkBox_pending : (writeLinkBox s).pending = s.pending := rfl

@[simp] theorem writeSupplyBox_lif (r : SupplyRecord) : (writeSupplyBox r s).lif = s.lif := rfl
@[simp] theorem writeSupplyBox_lct (r : SupplyRecord) : (writeSupplyBox r s).lct = { s.lct with boxes := { s.lct.boxes with supply := Box.write r } } := rfl
@[simp] theorem writeSupplyBox_chp (r : SupplyRecord) : (writeSupplyBox r s).chp = s.chp := rfl
@[simp] theorem writeSupplyBox_dpl (r : SupplyRecord) : (writeSupplyBox r s).dpl = s.dpl := rfl
@[simp] theorem writeSupplyBox_scc (r : SupplyRecord) : (writeSupplyBox r s).scc = s.scc := rfl
@[simp] theorem writeSupplyBox_tfu (r : SupplyRecord) : (writeSupplyBox r s).tfu = s.tfu := rfl
@[simp] theorem writeSupplyBox_tun (r : SupplyRecord) : (writeSupplyBox r s).tun = s.tun := rfl
@[simp] theorem writeSupplyBox_ort (r : SupplyRecord) : (writeSupplyBox r s).ort = s.ort := rfl
@[simp] theorem writeSupplyBox_bgv (r : SupplyRecord) : (writeSupplyBox r s).bgv = s.bgv := rfl
@[simp] theorem writeSupplyBox_pending (r : SupplyRecord) : (writeSupplyBox r s).pending = s.pending := rfl

@[simp] theorem writeTunerBox_lif (c : Fin 4) : (writeTunerBox c s).lif = s.lif := rfl
@[simp] theorem writeTunerBox_lct (c : Fin 4) : (writeTunerBox c s).lct = { s.lct with boxes := { s.lct.boxes with tuner := upd s.lct.boxes.tuner c (Box.write (tunerRecord c s)) } } := rfl
@[simp] theorem writeTunerBox_chp (c : Fin 4) : (writeTunerBox c s).chp = s.chp := rfl
@[simp] theorem writeTunerBox_dpl (c : Fin 4) : (writeTunerBox c s).dpl = s.dpl := rfl
@[simp] theorem writeTunerBox_scc (c : Fin 4) : (writeTunerBox c s).scc = s.scc := rfl
@[simp] theorem writeTunerBox_tfu (c : Fin 4) : (writeTunerBox c s).tfu = s.tfu := rfl
@[simp] theorem writeTunerBox_tun (c : Fin 4) : (writeTunerBox c s).tun = s.tun := rfl
@[simp] theorem writeTunerBox_ort (c : Fin 4) : (writeTunerBox c s).ort = s.ort := rfl
@[simp] theorem writeTunerBox_bgv (c : Fin 4) : (writeTunerBox c s).bgv = s.bgv := rfl
@[simp] theorem writeTunerBox_pending (c : Fin 4) : (writeTunerBox c s).pending = s.pending := rfl

@[simp] theorem putChannel_lif (c : Fin 4) (k : Channel) : (putChannel c k s).lif = s.lif := rfl
@[simp] theorem putChannel_lct (c : Fin 4) (k : Channel) : (putChannel c k s).lct = s.lct := rfl
@[simp] theorem putChannel_chp (c : Fin 4) (k : Channel) : (putChannel c k s).chp = s.chp := rfl
@[simp] theorem putChannel_dpl (c : Fin 4) (k : Channel) : (putChannel c k s).dpl = s.dpl := rfl
@[simp] theorem putChannel_scc (c : Fin 4) (k : Channel) : (putChannel c k s).scc = s.scc := rfl
@[simp] theorem putChannel_tfu (c : Fin 4) (k : Channel) : (putChannel c k s).tfu = s.tfu := rfl
@[simp] theorem putChannel_tun (c : Fin 4) (k : Channel) : (putChannel c k s).tun = { s.tun with channels := upd s.tun.channels c k } := rfl
@[simp] theorem putChannel_ort (c : Fin 4) (k : Channel) : (putChannel c k s).ort = s.ort := rfl
@[simp] theorem putChannel_bgv (c : Fin 4) (k : Channel) : (putChannel c k s).bgv = s.bgv := rfl
@[simp] theorem putChannel_pending (c : Fin 4) (k : Channel) : (putChannel c k s).pending = s.pending := rfl

@[simp] theorem setGuard_lif (g : GuardState) (force : Bool) (n : Nat) : (setGuard g force n s).lif = s.lif := rfl
@[simp] theorem setGuard_lct (g : GuardState) (force : Bool) (n : Nat) : (setGuard g force n s).lct = s.lct := rfl
@[simp] theorem setGuard_chp (g : GuardState) (force : Bool) (n : Nat) : (setGuard g force n s).chp = s.chp := rfl
@[simp] theorem setGuard_dpl (g : GuardState) (force : Bool) (n : Nat) : (setGuard g force n s).dpl = s.dpl := rfl
@[simp] theorem setGuard_scc (g : GuardState) (force : Bool) (n : Nat) : (setGuard g force n s).scc = s.scc := rfl
@[simp] theorem setGuard_tfu (g : GuardState) (force : Bool) (n : Nat) : (setGuard g force n s).tfu = s.tfu := rfl
@[simp] theorem setGuard_tun (g : GuardState) (force : Bool) (n : Nat) : (setGuard g force n s).tun = s.tun := rfl
@[simp] theorem setGuard_ort (g : GuardState) (force : Bool) (n : Nat) : (setGuard g force n s).ort = s.ort := rfl
@[simp] theorem setGuard_bgv (g : GuardState) (force : Bool) (n : Nat) : (setGuard g force n s).bgv = { s.bgv with guardState := g, force := force, recovery := n } := rfl
@[simp] theorem setGuard_pending (g : GuardState) (force : Bool) (n : Nat) : (setGuard g force n s).pending = s.pending := rfl

@[simp] theorem markEvaluation_lif : (markEvaluation s).lif = s.lif := rfl
@[simp] theorem markEvaluation_lct : (markEvaluation s).lct = s.lct := rfl
@[simp] theorem markEvaluation_chp : (markEvaluation s).chp = s.chp := rfl
@[simp] theorem markEvaluation_dpl : (markEvaluation s).dpl = s.dpl := rfl
@[simp] theorem markEvaluation_scc : (markEvaluation s).scc = s.scc := rfl
@[simp] theorem markEvaluation_tfu : (markEvaluation s).tfu = s.tfu := rfl
@[simp] theorem markEvaluation_tun : (markEvaluation s).tun = s.tun := rfl
@[simp] theorem markEvaluation_ort : (markEvaluation s).ort = s.ort := rfl
@[simp] theorem markEvaluation_bgv : (markEvaluation s).bgv = { s.bgv with evaluate := true } := rfl
@[simp] theorem markEvaluation_pending : (markEvaluation s).pending = s.pending := rfl

@[simp] theorem supplyTick_lif : (supplyTick s).lif = s.lif := rfl
@[simp] theorem supplyTick_lct : (supplyTick s).lct = s.lct := rfl
@[simp] theorem supplyTick_chp : (supplyTick s).chp = s.chp := rfl
@[simp] theorem supplyTick_dpl : (supplyTick s).dpl = s.dpl := rfl
@[simp] theorem supplyTick_scc : (supplyTick s).scc = s.scc := rfl
@[simp] theorem supplyTick_tfu : (supplyTick s).tfu = s.tfu := rfl
@[simp] theorem supplyTick_tun : (supplyTick s).tun = s.tun := rfl
@[simp] theorem supplyTick_ort : (supplyTick s).ort = s.ort := rfl
@[simp] theorem supplyTick_bgv : (supplyTick s).bgv = s.bgv.tick := rfl
@[simp] theorem supplyTick_pending : (supplyTick s).pending = s.pending := rfl

@[simp] theorem takeMeasurementStart_lif : (takeMeasurementStart s).lif = s.lif := rfl
@[simp] theorem takeMeasurementStart_lct : (takeMeasurementStart s).lct = s.lct := rfl
@[simp] theorem takeMeasurementStart_chp : (takeMeasurementStart s).chp = s.chp := rfl
@[simp] theorem takeMeasurementStart_dpl : (takeMeasurementStart s).dpl = s.dpl := rfl
@[simp] theorem takeMeasurementStart_scc : (takeMeasurementStart s).scc = s.scc := rfl
@[simp] theorem takeMeasurementStart_tfu : (takeMeasurementStart s).tfu = s.tfu := rfl
@[simp] theorem takeMeasurementStart_tun : (takeMeasurementStart s).tun = s.tun := rfl
@[simp] theorem takeMeasurementStart_ort : (takeMeasurementStart s).ort = s.ort := rfl
@[simp] theorem takeMeasurementStart_bgv : (takeMeasurementStart s).bgv = { s.bgv with running := s.bgv.starting, starting := none } := rfl
@[simp] theorem takeMeasurementStart_pending : (takeMeasurementStart s).pending = s.pending := rfl

@[simp] theorem putLine_lif (i : Fin 8) (l : Line) : (putLine i l s).lif = s.lif := rfl
@[simp] theorem putLine_lct (i : Fin 8) (l : Line) : (putLine i l s).lct = s.lct := rfl
@[simp] theorem putLine_chp (i : Fin 8) (l : Line) : (putLine i l s).chp = s.chp := rfl
@[simp] theorem putLine_dpl (i : Fin 8) (l : Line) : (putLine i l s).dpl = s.dpl := rfl
@[simp] theorem putLine_scc (i : Fin 8) (l : Line) : (putLine i l s).scc = s.scc := rfl
@[simp] theorem putLine_tfu (i : Fin 8) (l : Line) : (putLine i l s).tfu = { s.tfu with lines := upd s.tfu.lines i l } := rfl
@[simp] theorem putLine_tun (i : Fin 8) (l : Line) : (putLine i l s).tun = s.tun := rfl
@[simp] theorem putLine_ort (i : Fin 8) (l : Line) : (putLine i l s).ort = s.ort := rfl
@[simp] theorem putLine_bgv (i : Fin 8) (l : Line) : (putLine i l s).bgv = s.bgv := rfl
@[simp] theorem putLine_pending (i : Fin 8) (l : Line) : (putLine i l s).pending = s.pending := rfl

@[simp] theorem setScan_lif (i : Option (Fin 8)) : (setScan i s).lif = s.lif := rfl
@[simp] theorem setScan_lct (i : Option (Fin 8)) : (setScan i s).lct = s.lct := rfl
@[simp] theorem setScan_chp (i : Option (Fin 8)) : (setScan i s).chp = s.chp := rfl
@[simp] theorem setScan_dpl (i : Option (Fin 8)) : (setScan i s).dpl = s.dpl := rfl
@[simp] theorem setScan_scc (i : Option (Fin 8)) : (setScan i s).scc = s.scc := rfl
@[simp] theorem setScan_tfu (i : Option (Fin 8)) : (setScan i s).tfu = { s.tfu with scan := i } := rfl
@[simp] theorem setScan_tun (i : Option (Fin 8)) : (setScan i s).tun = s.tun := rfl
@[simp] theorem setScan_ort (i : Option (Fin 8)) : (setScan i s).ort = s.ort := rfl
@[simp] theorem setScan_bgv (i : Option (Fin 8)) : (setScan i s).bgv = s.bgv := rfl
@[simp] theorem setScan_pending (i : Option (Fin 8)) : (setScan i s).pending = s.pending := rfl

@[simp] theorem forgetTaps_lif : (forgetTaps s).lif = s.lif := rfl
@[simp] theorem forgetTaps_lct : (forgetTaps s).lct = s.lct := rfl
@[simp] theorem forgetTaps_chp : (forgetTaps s).chp = s.chp := rfl
@[simp] theorem forgetTaps_dpl : (forgetTaps s).dpl = s.dpl := rfl
@[simp] theorem forgetTaps_scc : (forgetTaps s).scc = s.scc := rfl
@[simp] theorem forgetTaps_tfu : (forgetTaps s).tfu = { s.tfu with taps := [], previousTap := none } := rfl
@[simp] theorem forgetTaps_tun : (forgetTaps s).tun = s.tun := rfl
@[simp] theorem forgetTaps_ort : (forgetTaps s).ort = s.ort := rfl
@[simp] theorem forgetTaps_bgv : (forgetTaps s).bgv = s.bgv := rfl
@[simp] theorem forgetTaps_pending : (forgetTaps s).pending = s.pending := rfl

@[simp] theorem startTaps_lif : (startTaps s).lif = s.lif := rfl
@[simp] theorem startTaps_lct : (startTaps s).lct = s.lct := rfl
@[simp] theorem startTaps_chp : (startTaps s).chp = s.chp := rfl
@[simp] theorem startTaps_dpl : (startTaps s).dpl = s.dpl := rfl
@[simp] theorem startTaps_scc : (startTaps s).scc = s.scc := rfl
@[simp] theorem startTaps_tfu : (startTaps s).tfu = { s.tfu with taps := [], previousTap := some s.tfu.frames } := rfl
@[simp] theorem startTaps_tun : (startTaps s).tun = s.tun := rfl
@[simp] theorem startTaps_ort : (startTaps s).ort = s.ort := rfl
@[simp] theorem startTaps_bgv : (startTaps s).bgv = s.bgv := rfl
@[simp] theorem startTaps_pending : (startTaps s).pending = s.pending := rfl

@[simp] theorem advanceClock_lif : (advanceClock s).lif = s.lif := rfl
@[simp] theorem advanceClock_lct : (advanceClock s).lct = s.lct := rfl
@[simp] theorem advanceClock_chp : (advanceClock s).chp = s.chp := rfl
@[simp] theorem advanceClock_dpl : (advanceClock s).dpl = s.dpl := rfl
@[simp] theorem advanceClock_scc : (advanceClock s).scc = s.scc := rfl
@[simp] theorem advanceClock_tfu : (advanceClock s).tfu = { s.tfu with phase := s.tfu.phase + 1, frames := s.tfu.frames + 1 } := rfl
@[simp] theorem advanceClock_tun : (advanceClock s).tun = s.tun := rfl
@[simp] theorem advanceClock_ort : (advanceClock s).ort = s.ort := rfl
@[simp] theorem advanceClock_bgv : (advanceClock s).bgv = s.bgv := rfl
@[simp] theorem advanceClock_pending : (advanceClock s).pending = s.pending := rfl

@[simp] theorem togglePanic_lif : (togglePanic s).lif = s.lif := rfl
@[simp] theorem togglePanic_lct : (togglePanic s).lct = s.lct := rfl
@[simp] theorem togglePanic_chp : (togglePanic s).chp = s.chp := rfl
@[simp] theorem togglePanic_dpl : (togglePanic s).dpl = s.dpl := rfl
@[simp] theorem togglePanic_scc : (togglePanic s).scc = s.scc := rfl
@[simp] theorem togglePanic_tfu : (togglePanic s).tfu = s.tfu := rfl
@[simp] theorem togglePanic_tun : (togglePanic s).tun = s.tun := rfl
@[simp] theorem togglePanic_ort : (togglePanic s).ort = { s.ort with panic := !s.ort.panic } := rfl
@[simp] theorem togglePanic_bgv : (togglePanic s).bgv = s.bgv := rfl
@[simp] theorem togglePanic_pending : (togglePanic s).pending = s.pending := rfl

@[simp] theorem takeRampEnd_lif (i : Fin 8) : (takeRampEnd i s).lif = s.lif := rfl
@[simp] theorem takeRampEnd_lct (i : Fin 8) : (takeRampEnd i s).lct = s.lct := rfl
@[simp] theorem takeRampEnd_chp (i : Fin 8) : (takeRampEnd i s).chp = s.chp := rfl
@[simp] theorem takeRampEnd_dpl (i : Fin 8) : (takeRampEnd i s).dpl = s.dpl := rfl
@[simp] theorem takeRampEnd_scc (i : Fin 8) : (takeRampEnd i s).scc = s.scc := rfl
@[simp] theorem takeRampEnd_tfu (i : Fin 8) : (takeRampEnd i s).tfu = s.tfu := rfl
@[simp] theorem takeRampEnd_tun (i : Fin 8) : (takeRampEnd i s).tun = s.tun := rfl
@[simp] theorem takeRampEnd_ort (i : Fin 8) : (takeRampEnd i s).ort = { s.ort with owners := upd s.ort.owners i { s.ort.owners[i] with outgoing := none, k := 0 } } := rfl
@[simp] theorem takeRampEnd_bgv (i : Fin 8) : (takeRampEnd i s).bgv = s.bgv := rfl
@[simp] theorem takeRampEnd_pending (i : Fin 8) : (takeRampEnd i s).pending = s.pending := rfl

@[simp] theorem consumePermit_lif : (consumePermit s).lif = s.lif := rfl
@[simp] theorem consumePermit_lct : (consumePermit s).lct = { s.lct with permit := false } := rfl
@[simp] theorem consumePermit_chp : (consumePermit s).chp = s.chp := rfl
@[simp] theorem consumePermit_dpl : (consumePermit s).dpl = s.dpl := rfl
@[simp] theorem consumePermit_scc : (consumePermit s).scc = s.scc := rfl
@[simp] theorem consumePermit_tfu : (consumePermit s).tfu = s.tfu := rfl
@[simp] theorem consumePermit_tun : (consumePermit s).tun = s.tun := rfl
@[simp] theorem consumePermit_ort : (consumePermit s).ort = s.ort := rfl
@[simp] theorem consumePermit_bgv : (consumePermit s).bgv = s.bgv := rfl
@[simp] theorem consumePermit_pending : (consumePermit s).pending = s.pending := rfl

@[simp] theorem enqueue_lif (words : List Word) : (enqueue words s).lif = s.lif := rfl
@[simp] theorem enqueue_lct (words : List Word) : (enqueue words s).lct = { s.lct with queue := s.lct.queue ++ [words] } := rfl
@[simp] theorem enqueue_chp (words : List Word) : (enqueue words s).chp = s.chp := rfl
@[simp] theorem enqueue_dpl (words : List Word) : (enqueue words s).dpl = s.dpl := rfl
@[simp] theorem enqueue_scc (words : List Word) : (enqueue words s).scc = s.scc := rfl
@[simp] theorem enqueue_tfu (words : List Word) : (enqueue words s).tfu = s.tfu := rfl
@[simp] theorem enqueue_tun (words : List Word) : (enqueue words s).tun = s.tun := rfl
@[simp] theorem enqueue_ort (words : List Word) : (enqueue words s).ort = s.ort := rfl
@[simp] theorem enqueue_bgv (words : List Word) : (enqueue words s).bgv = s.bgv := rfl
@[simp] theorem enqueue_pending (words : List Word) : (enqueue words s).pending = s.pending := rfl

@[simp] theorem setAssembler_lif (a : Assembler) : (setAssembler a s).lif = s.lif := rfl
@[simp] theorem setAssembler_lct (a : Assembler) : (setAssembler a s).lct = { s.lct with assembler := a } := rfl
@[simp] theorem setAssembler_chp (a : Assembler) : (setAssembler a s).chp = s.chp := rfl
@[simp] theorem setAssembler_dpl (a : Assembler) : (setAssembler a s).dpl = s.dpl := rfl
@[simp] theorem setAssembler_scc (a : Assembler) : (setAssembler a s).scc = s.scc := rfl
@[simp] theorem setAssembler_tfu (a : Assembler) : (setAssembler a s).tfu = s.tfu := rfl
@[simp] theorem setAssembler_tun (a : Assembler) : (setAssembler a s).tun = s.tun := rfl
@[simp] theorem setAssembler_ort (a : Assembler) : (setAssembler a s).ort = s.ort := rfl
@[simp] theorem setAssembler_bgv (a : Assembler) : (setAssembler a s).bgv = s.bgv := rfl
@[simp] theorem setAssembler_pending (a : Assembler) : (setAssembler a s).pending = s.pending := rfl

@[simp] theorem abandon_lif : (abandon s).lif = s.lif := rfl
@[simp] theorem abandon_lct : (abandon s).lct = { s.lct with assembler := .outside } := rfl
@[simp] theorem abandon_chp : (abandon s).chp = s.chp := rfl
@[simp] theorem abandon_dpl : (abandon s).dpl = s.dpl := rfl
@[simp] theorem abandon_scc : (abandon s).scc = s.scc := rfl
@[simp] theorem abandon_tfu : (abandon s).tfu = s.tfu := rfl
@[simp] theorem abandon_tun : (abandon s).tun = s.tun := rfl
@[simp] theorem abandon_ort : (abandon s).ort = s.ort := rfl
@[simp] theorem abandon_bgv : (abandon s).bgv = s.bgv := rfl
@[simp] theorem abandon_pending : (abandon s).pending = s.pending := rfl

@[simp] theorem countPosition_lif : (countPosition s).lif =
    { s.lif with span := if s.lif.span < spanLength then s.lif.span + 1 else 1 } := rfl
@[simp] theorem countPosition_lct : (countPosition s).lct = s.lct := rfl
@[simp] theorem countPosition_chp : (countPosition s).chp = s.chp := rfl
@[simp] theorem countPosition_dpl : (countPosition s).dpl = s.dpl := rfl
@[simp] theorem countPosition_scc : (countPosition s).scc = s.scc := rfl
@[simp] theorem countPosition_tfu : (countPosition s).tfu = s.tfu := rfl
@[simp] theorem countPosition_tun : (countPosition s).tun = s.tun := rfl
@[simp] theorem countPosition_ort : (countPosition s).ort = s.ort := rfl
@[simp] theorem countPosition_bgv : (countPosition s).bgv = s.bgv := rfl
@[simp] theorem countPosition_pending : (countPosition s).pending = s.pending := rfl

@[simp] theorem setLif_lif (f : Lif → Lif) : (setLif f s).lif = f s.lif := rfl
@[simp] theorem setLif_lct (f : Lif → Lif) : (setLif f s).lct = s.lct := rfl
@[simp] theorem setLif_chp (f : Lif → Lif) : (setLif f s).chp = s.chp := rfl
@[simp] theorem setLif_dpl (f : Lif → Lif) : (setLif f s).dpl = s.dpl := rfl
@[simp] theorem setLif_scc (f : Lif → Lif) : (setLif f s).scc = s.scc := rfl
@[simp] theorem setLif_tfu (f : Lif → Lif) : (setLif f s).tfu = s.tfu := rfl
@[simp] theorem setLif_tun (f : Lif → Lif) : (setLif f s).tun = s.tun := rfl
@[simp] theorem setLif_ort (f : Lif → Lif) : (setLif f s).ort = s.ort := rfl
@[simp] theorem setLif_bgv (f : Lif → Lif) : (setLif f s).bgv = s.bgv := rfl
@[simp] theorem setLif_pending (f : Lif → Lif) : (setLif f s).pending = s.pending := rfl

@[simp] theorem putScene_lif (n : Fin 128) (e : Option Scene) : (putScene n e s).lif = s.lif := rfl
@[simp] theorem putScene_lct (n : Fin 128) (e : Option Scene) : (putScene n e s).lct = s.lct := rfl
@[simp] theorem putScene_chp (n : Fin 128) (e : Option Scene) : (putScene n e s).chp = s.chp := rfl
@[simp] theorem putScene_dpl (n : Fin 128) (e : Option Scene) : (putScene n e s).dpl = s.dpl := rfl
@[simp] theorem putScene_scc (n : Fin 128) (e : Option Scene) : (putScene n e s).scc = { s.scc with scenes := upd s.scc.scenes n e } := rfl
@[simp] theorem putScene_tfu (n : Fin 128) (e : Option Scene) : (putScene n e s).tfu = s.tfu := rfl
@[simp] theorem putScene_tun (n : Fin 128) (e : Option Scene) : (putScene n e s).tun = s.tun := rfl
@[simp] theorem putScene_ort (n : Fin 128) (e : Option Scene) : (putScene n e s).ort = s.ort := rfl
@[simp] theorem putScene_bgv (n : Fin 128) (e : Option Scene) : (putScene n e s).bgv = s.bgv := rfl
@[simp] theorem putScene_pending (n : Fin 128) (e : Option Scene) : (putScene n e s).pending = s.pending := rfl

@[simp] theorem toIdle_lif : (toIdle s).lif = s.lif := rfl
@[simp] theorem toIdle_lct : (toIdle s).lct = s.lct := rfl
@[simp] theorem toIdle_chp : (toIdle s).chp = s.chp := rfl
@[simp] theorem toIdle_dpl : (toIdle s).dpl = s.dpl := rfl
@[simp] theorem toIdle_scc : (toIdle s).scc = { s.scc with change := .idle, inFlight := none } := rfl
@[simp] theorem toIdle_tfu : (toIdle s).tfu = s.tfu := rfl
@[simp] theorem toIdle_tun : (toIdle s).tun = s.tun := rfl
@[simp] theorem toIdle_ort : (toIdle s).ort = s.ort := rfl
@[simp] theorem toIdle_bgv : (toIdle s).bgv = s.bgv := rfl
@[simp] theorem toIdle_pending : (toIdle s).pending = s.pending := rfl

@[simp] theorem withPending_lif (q : List Instr) : (s.withPending q).lif = s.lif := rfl
@[simp] theorem withPending_lct (q : List Instr) : (s.withPending q).lct = s.lct := rfl
@[simp] theorem withPending_chp (q : List Instr) : (s.withPending q).chp = s.chp := rfl
@[simp] theorem withPending_dpl (q : List Instr) : (s.withPending q).dpl = s.dpl := rfl
@[simp] theorem withPending_scc (q : List Instr) : (s.withPending q).scc = s.scc := rfl
@[simp] theorem withPending_tfu (q : List Instr) : (s.withPending q).tfu = s.tfu := rfl
@[simp] theorem withPending_tun (q : List Instr) : (s.withPending q).tun = s.tun := rfl
@[simp] theorem withPending_ort (q : List Instr) : (s.withPending q).ort = s.ort := rfl
@[simp] theorem withPending_bgv (q : List Instr) : (s.withPending q).bgv = s.bgv := rfl
@[simp] theorem withPending_pending (q : List Instr) : (s.withPending q).pending = q := rfl

/-! ### Classes that join the pending set (R191, R192) -/

@[simp] theorem noticeIfDue_lif : (noticeIfDue s).lif = s.lif := by unfold noticeIfDue; split <;> rfl
theorem noticeIfDue_of_due (h : noticeDue s = true) : noticeIfDue s = takeNotice s := by simp [noticeIfDue, h]
theorem noticeIfDue_of_not_due (h : noticeDue s = false) : noticeIfDue s = s := by simp [noticeIfDue, h]
@[simp] theorem noticeIfDue_chp : (noticeIfDue s).chp = s.chp := by unfold noticeIfDue; split <;> rfl
@[simp] theorem noticeIfDue_dpl : (noticeIfDue s).dpl = s.dpl := by unfold noticeIfDue; split <;> rfl
@[simp] theorem noticeIfDue_scc : (noticeIfDue s).scc = s.scc := by unfold noticeIfDue; split <;> rfl
@[simp] theorem noticeIfDue_tfu : (noticeIfDue s).tfu = s.tfu := by unfold noticeIfDue; split <;> rfl
@[simp] theorem noticeIfDue_tun : (noticeIfDue s).tun = s.tun := by unfold noticeIfDue; split <;> rfl
@[simp] theorem noticeIfDue_ort : (noticeIfDue s).ort = s.ort := by unfold noticeIfDue; split <;> rfl
@[simp] theorem noticeIfDue_bgv : (noticeIfDue s).bgv = s.bgv := by unfold noticeIfDue; split <;> rfl
@[simp] theorem noticeIfDue_pending : (noticeIfDue s).pending = s.pending := by unfold noticeIfDue; split <;> rfl

@[simp] theorem raise_lif (k : NoticeClass) : (raise k s).lif = s.lif := noticeIfDue_lif s
/-- A class joins as before where no notice is due (R192). -/
theorem raise_of_not_due (k : NoticeClass) (h : noticeDue s = false) : raise k s = setClass k s := by
  simp [raise, noticeIfDue_of_not_due s h]
/-- A class joins after the notice that is due has been queued (R192). -/
theorem raise_of_due (k : NoticeClass) (h : noticeDue s = true) : raise k s = setClass k (takeNotice s) := by
  simp [raise, noticeIfDue_of_due s h]
@[simp] theorem raise_chp (k : NoticeClass) : (raise k s).chp = s.chp := noticeIfDue_chp s
@[simp] theorem raise_dpl (k : NoticeClass) : (raise k s).dpl = s.dpl := noticeIfDue_dpl s
@[simp] theorem raise_scc (k : NoticeClass) : (raise k s).scc = s.scc := noticeIfDue_scc s
@[simp] theorem raise_tfu (k : NoticeClass) : (raise k s).tfu = s.tfu := noticeIfDue_tfu s
@[simp] theorem raise_tun (k : NoticeClass) : (raise k s).tun = s.tun := noticeIfDue_tun s
@[simp] theorem raise_ort (k : NoticeClass) : (raise k s).ort = s.ort := noticeIfDue_ort s
@[simp] theorem raise_bgv (k : NoticeClass) : (raise k s).bgv = s.bgv := noticeIfDue_bgv s
@[simp] theorem raise_pending (k : NoticeClass) : (raise k s).pending = s.pending := noticeIfDue_pending s

@[simp] theorem raiseIf_lif (p : Bool) (k : NoticeClass) : (raiseIf p k s).lif = s.lif := by cases p <;> simp [raiseIf]
@[simp] theorem raiseIf_chp (p : Bool) (k : NoticeClass) : (raiseIf p k s).chp = s.chp := by cases p <;> simp [raiseIf]
@[simp] theorem raiseIf_dpl (p : Bool) (k : NoticeClass) : (raiseIf p k s).dpl = s.dpl := by cases p <;> simp [raiseIf]
@[simp] theorem raiseIf_scc (p : Bool) (k : NoticeClass) : (raiseIf p k s).scc = s.scc := by cases p <;> simp [raiseIf]
@[simp] theorem raiseIf_tfu (p : Bool) (k : NoticeClass) : (raiseIf p k s).tfu = s.tfu := by cases p <;> simp [raiseIf]
@[simp] theorem raiseIf_tun (p : Bool) (k : NoticeClass) : (raiseIf p k s).tun = s.tun := by cases p <;> simp [raiseIf]
@[simp] theorem raiseIf_ort (p : Bool) (k : NoticeClass) : (raiseIf p k s).ort = s.ort := by cases p <;> simp [raiseIf]
@[simp] theorem raiseIf_bgv (p : Bool) (k : NoticeClass) : (raiseIf p k s).bgv = s.bgv := by cases p <;> simp [raiseIf]
@[simp] theorem raiseIf_pending (p : Bool) (k : NoticeClass) : (raiseIf p k s).pending = s.pending := by cases p <;> simp [raiseIf]
@[simp] theorem raiseIf_true (k : NoticeClass) : raiseIf true k s = raise k s := rfl
@[simp] theorem raiseIf_false (k : NoticeClass) : raiseIf false k s = s := rfl
@[simp] theorem raiseOnceIf_lif (p : Bool) (k : NoticeClass) : (raiseOnceIf p k s).lif = s.lif := by simp [raiseOnceIf]
@[simp] theorem raiseOnceIf_chp (p : Bool) (k : NoticeClass) : (raiseOnceIf p k s).chp = s.chp := by simp [raiseOnceIf]
@[simp] theorem raiseOnceIf_dpl (p : Bool) (k : NoticeClass) : (raiseOnceIf p k s).dpl = s.dpl := by simp [raiseOnceIf]
@[simp] theorem raiseOnceIf_scc (p : Bool) (k : NoticeClass) : (raiseOnceIf p k s).scc = s.scc := by simp [raiseOnceIf]
@[simp] theorem raiseOnceIf_tfu (p : Bool) (k : NoticeClass) : (raiseOnceIf p k s).tfu = s.tfu := by simp [raiseOnceIf]
@[simp] theorem raiseOnceIf_tun (p : Bool) (k : NoticeClass) : (raiseOnceIf p k s).tun = s.tun := by simp [raiseOnceIf]
@[simp] theorem raiseOnceIf_ort (p : Bool) (k : NoticeClass) : (raiseOnceIf p k s).ort = s.ort := by simp [raiseOnceIf]
@[simp] theorem raiseOnceIf_bgv (p : Bool) (k : NoticeClass) : (raiseOnceIf p k s).bgv = s.bgv := by simp [raiseOnceIf]
@[simp] theorem raiseOnceIf_pending (p : Bool) (k : NoticeClass) : (raiseOnceIf p k s).pending = s.pending := by simp [raiseOnceIf]
theorem raiseOnceIf_of_pending (p : Bool) (k : NoticeClass) (h : classPending k s = true) : raiseOnceIf p k s = s := by
  simp [raiseOnceIf, h]
theorem raiseOnceIf_of_new (p : Bool) (k : NoticeClass) (h : classPending k s = false) :
    raiseOnceIf p k s = raiseIf p k s := by simp [raiseOnceIf, h]

/-- While the queue holds a parcel, a class joins and no notice is due (R192). -/
theorem noticeDue_of_queued (h : s.lct.queue ≠ []) : noticeDue s = false := by
  cases hq : s.lct.queue with
  | nil => exact absurd hq h
  | cons a b => simp [noticeDue, hq]

/-- A notice leaves none due: the pending set keeps no class of the mask (R192). -/
theorem noticeDue_takeNotice : noticeDue (takeNotice s) = false :=
  noticeDue_of_queued _ (by simp)

@[simp] theorem idleCtx_lif (c : Fin 4) (x : Fin 2) : (idleCtx c x s).lif = s.lif := rfl
@[simp] theorem idleCtx_lct (c : Fin 4) (x : Fin 2) : (idleCtx c x s).lct = s.lct := rfl
@[simp] theorem idleCtx_chp (c : Fin 4) (x : Fin 2) : (idleCtx c x s).chp = s.chp := rfl
@[simp] theorem idleCtx_tfu (c : Fin 4) (x : Fin 2) : (idleCtx c x s).tfu = s.tfu := rfl
@[simp] theorem idleCtx_tun (c : Fin 4) (x : Fin 2) : (idleCtx c x s).tun = s.tun := rfl
@[simp] theorem idleCtx_ort (c : Fin 4) (x : Fin 2) : (idleCtx c x s).ort = s.ort := rfl
@[simp] theorem idleCtx_bgv (c : Fin 4) (x : Fin 2) : (idleCtx c x s).bgv = s.bgv := rfl
@[simp] theorem idleCtx_pending (c : Fin 4) (x : Fin 2) : (idleCtx c x s).pending = s.pending := rfl

@[simp] theorem cutCtx_lif (c : Fin 4) (x : Fin 2) : (cutCtx c x s).lif = s.lif := rfl
@[simp] theorem cutCtx_lct (c : Fin 4) (x : Fin 2) : (cutCtx c x s).lct = s.lct := rfl
@[simp] theorem cutCtx_chp (c : Fin 4) (x : Fin 2) : (cutCtx c x s).chp = s.chp := rfl
@[simp] theorem cutCtx_tfu (c : Fin 4) (x : Fin 2) : (cutCtx c x s).tfu = s.tfu := rfl
@[simp] theorem cutCtx_tun (c : Fin 4) (x : Fin 2) : (cutCtx c x s).tun = s.tun := rfl
@[simp] theorem cutCtx_ort (c : Fin 4) (x : Fin 2) : (cutCtx c x s).ort = s.ort := rfl
@[simp] theorem cutCtx_bgv (c : Fin 4) (x : Fin 2) : (cutCtx c x s).bgv = s.bgv := rfl
@[simp] theorem cutCtx_pending (c : Fin 4) (x : Fin 2) : (cutCtx c x s).pending = s.pending := rfl

@[simp] theorem spillCtx_lif (c : Fin 4) (x : Fin 2) : (spillCtx c x s).lif = s.lif := rfl
@[simp] theorem spillCtx_lct (c : Fin 4) (x : Fin 2) : (spillCtx c x s).lct = s.lct := rfl
@[simp] theorem spillCtx_chp (c : Fin 4) (x : Fin 2) : (spillCtx c x s).chp = s.chp := rfl
@[simp] theorem spillCtx_tfu (c : Fin 4) (x : Fin 2) : (spillCtx c x s).tfu = s.tfu := rfl
@[simp] theorem spillCtx_tun (c : Fin 4) (x : Fin 2) : (spillCtx c x s).tun = s.tun := rfl
@[simp] theorem spillCtx_ort (c : Fin 4) (x : Fin 2) : (spillCtx c x s).ort = s.ort := rfl
@[simp] theorem spillCtx_bgv (c : Fin 4) (x : Fin 2) : (spillCtx c x s).bgv = s.bgv := rfl
@[simp] theorem spillCtx_pending (c : Fin 4) (x : Fin 2) : (spillCtx c x s).pending = s.pending := rfl

@[simp] theorem endRequest_lif (o : SceneOutcome) (r : Request) (n : Option (Fin 128)) : (endRequest o r n s).lif = s.lif := by simp [endRequest]
@[simp] theorem endRequest_chp (o : SceneOutcome) (r : Request) (n : Option (Fin 128)) : (endRequest o r n s).chp = s.chp := by simp [endRequest]
@[simp] theorem endRequest_dpl (o : SceneOutcome) (r : Request) (n : Option (Fin 128)) : (endRequest o r n s).dpl = s.dpl := by simp [endRequest]
@[simp] theorem endRequest_scc (o : SceneOutcome) (r : Request) (n : Option (Fin 128)) : (endRequest o r n s).scc = { s.scc with last := some { outcome := o, request := r, scene := n } } := by simp [endRequest]
@[simp] theorem endRequest_tfu (o : SceneOutcome) (r : Request) (n : Option (Fin 128)) : (endRequest o r n s).tfu = s.tfu := by simp [endRequest]
@[simp] theorem endRequest_tun (o : SceneOutcome) (r : Request) (n : Option (Fin 128)) : (endRequest o r n s).tun = s.tun := by simp [endRequest]
@[simp] theorem endRequest_ort (o : SceneOutcome) (r : Request) (n : Option (Fin 128)) : (endRequest o r n s).ort = s.ort := by simp [endRequest]
@[simp] theorem endRequest_bgv (o : SceneOutcome) (r : Request) (n : Option (Fin 128)) : (endRequest o r n s).bgv = s.bgv := by simp [endRequest]
@[simp] theorem endRequest_pending (o : SceneOutcome) (r : Request) (n : Option (Fin 128)) : (endRequest o r n s).pending = s.pending := by simp [endRequest]

end Sys2Proof.Machine
end

