-- ==== Sys2Proof/Laws/Tables.lean ====
section
/-! SUPPORT. The tables, the arithmetic of 00_scope, and the samples of the pool: reads after writes, the canonical form,
and the free list as a permutation. -/

namespace Sys2Proof.Machine

/-! ### Tables -/

@[simp] theorem tab_get {α : Type} {n : Nat} (f : Fin n → α) (i : Nat) (h : i < n) : (tab f)[i] = f ⟨i, h⟩ := by
  simp [tab]

@[simp] theorem upd_get_self {α : Type} {n : Nat} (v : Vector α n) (i : Fin n) (x : α) : (upd v i x)[i.val] = x := by
  simp [upd]

theorem upd_get_ne {α : Type} {n : Nat} (v : Vector α n) (i : Fin n) (x : α) (j : Nat) (h : j < n) (ne : i.val ≠ j) :
    (upd v i x)[j] = v[j] := by
  simp [upd, ne]

theorem upd_get {α : Type} {n : Nat} (v : Vector α n) (i : Fin n) (x : α) (j : Nat) (h : j < n) :
    (upd v i x)[j] = if i.val = j then x else v[j] := by
  simp [upd, Vector.getElem_set]

theorem setCtx_get (v : Vector (Vector Ctx 2) 4) (c : Fin 4) (x : Fin 2) (k : Ctx) (d : Fin 4) (y : Fin 2) :
    (setCtx v c x k)[d][y] = if d = c ∧ y = x then k else v[d][y] := by
  by_cases h : c = d
  · subst h
    by_cases g : x = y
    · subst g; simp [setCtx]
    · have : x.val ≠ y.val := fun e => g (Fin.ext e)
      simp [setCtx, upd_get, this, Ne.symm g]
  · have : c.val ≠ d.val := fun e => h (Fin.ext e)
    simp [setCtx, upd_get, this, Ne.symm h]

theorem ctx_putCtx (c : Fin 4) (x : Fin 2) (k : Ctx) (s : State) (d : Fin 4) (y : Fin 2) :
    (putCtx c x k s).scc.ctx d y = if d = c ∧ y = x then k else s.scc.ctx d y := setCtx_get _ _ _ _ _ _

/-! ### Arithmetic -/

theorem saturate_bounds (a : Int) : sampleMin ≤ saturate a ∧ saturate a ≤ sampleMax := by
  unfold saturate sampleMin sampleMax; omega

theorem saturate_of_range (a : Int) (low : sampleMin ≤ a) (high : a ≤ sampleMax) : saturate a = a := by
  unfold saturate; unfold sampleMin sampleMax at *; omega

theorem clampNat_bounds (lo hi a : Nat) (h : lo ≤ hi) : lo ≤ clampNat lo hi a ∧ clampNat lo hi a ≤ hi := by
  unfold clampNat; omega

theorem clampNat_of_range (lo hi a : Nat) (low : lo ≤ a) (high : a ≤ hi) : clampNat lo hi a = a := by
  unfold clampNat; omega

theorem clampInt_bounds (lo hi a : Int) (h : lo ≤ hi) : lo ≤ clampInt lo hi a ∧ clampInt lo hi a ≤ hi := by
  unfold clampInt; omega

theorem clampInt_of_range (lo hi a : Int) (low : lo ≤ a) (high : a ≤ hi) : clampInt lo hi a = a := by
  unfold clampInt; omega

@[simp] theorem clampFin_val (n a : Nat) : (clampFin n a).val = min a n := rfl

theorem index_lt (n a : Nat) (h : a < n) : index? n a = some ⟨a, h⟩ := by simp [index?, h]

theorem index_ge (n a : Nat) (h : n ≤ a) : index? n a = none := by simp [index?, Nat.not_lt.mpr h]

/-! ### The samples of the pool -/

theorem wf_cons (a : Nat) (v : Int) (m : List (Nat × Int)) :
    Memory.wf ((a, v) :: m) = true ↔ v ≠ 0 ∧ (∀ p ∈ m, a < p.1) ∧ Memory.wf m = true := by
  induction m generalizing a v with
  | nil => simp [Memory.wf]
  | cons q m ih =>
    obtain ⟨b, w⟩ := q
    simp only [Memory.wf, Bool.and_eq_true, decide_eq_true_eq, ih, List.mem_cons, forall_eq_or_imp]
    constructor
    · rintro ⟨⟨h1, h2⟩, h3, h4, h5⟩
      exact ⟨h1, ⟨h2, fun p hp => lt_trans h2 (h4 p hp)⟩, h3, h4, h5⟩
    · rintro ⟨h1, ⟨h2, _⟩, h3, h4, h5⟩
      exact ⟨⟨h1, h2⟩, h3, h4, h5⟩

theorem mem_memWrite (m : List (Nat × Int)) (a : Nat) (v : Int) (p : Nat × Int) (h : p ∈ memWrite m a v) :
    p.1 = a ∨ p ∈ m := by
  induction m with
  | nil => simp only [memWrite] at h; split at h <;> simp_all
  | cons q m ih =>
    obtain ⟨k, w⟩ := q
    simp only [memWrite] at h
    split at h
    · split at h
      · exact Or.inr h
      · rcases List.mem_cons.mp h with rfl | h
        · exact Or.inl rfl
        · exact Or.inr h
    · split at h
      · split at h
        · exact Or.inr (List.mem_cons_of_mem _ h)
        · rcases List.mem_cons.mp h with rfl | h
          · exact Or.inl rfl
          · exact Or.inr (List.mem_cons_of_mem _ h)
      · rcases List.mem_cons.mp h with rfl | h
        · exact Or.inr (List.mem_cons_self ..)
        · rcases ih h with h | h
          · exact Or.inl h
          · exact Or.inr (List.mem_cons_of_mem _ h)

/-- Every store keeps the canonical form. -/
theorem wf_memWrite (m : List (Nat × Int)) (a : Nat) (v : Int) (h : Memory.wf m = true) :
    Memory.wf (memWrite m a v) = true := by
  induction m with
  | nil => simp only [memWrite]; split <;> simp_all [Memory.wf]
  | cons q m ih =>
    obtain ⟨k, w⟩ := q
    obtain ⟨h1, h2, h3⟩ := (wf_cons k w m).mp h
    simp only [memWrite]
    split
    · rename_i lt
      split
      · exact h
      · rename_i nz
        refine (wf_cons a v _).mpr ⟨nz, ?_, h⟩
        intro p hp
        rcases List.mem_cons.mp hp with rfl | hp
        · exact lt
        · exact lt_trans lt (h2 p hp)
    · split
      · rename_i eq
        subst eq
        split
        · exact h3
        · rename_i nz
          exact (wf_cons _ _ _).mpr ⟨nz, h2, h3⟩
      · rename_i nlt neq
        refine (wf_cons k w _).mpr ⟨h1, ?_, ih h3⟩
        intro p hp
        rcases mem_memWrite m a v p hp with e | hp
        · omega
        · exact h2 p hp

theorem memRead_absent (m : List (Nat × Int)) (a : Nat) (h : ∀ p ∈ m, a < p.1) : memRead m a = 0 := by
  induction m with
  | nil => rfl
  | cons q m ih =>
    obtain ⟨k, w⟩ := q
    have hk : a < k := h (k, w) (List.mem_cons_self ..)
    simp only [memRead]
    rw [if_neg (by omega)]
    exact ih fun p hp => h p (List.mem_cons_of_mem _ hp)

/-- A read after a store: the value stored at its address, and what stood before at every other. -/
theorem memRead_memWrite (m : List (Nat × Int)) (a : Nat) (v : Int) (h : Memory.wf m = true) (b : Nat) :
    memRead (memWrite m a v) b = if a = b then v else memRead m b := by
  induction m with
  | nil =>
    simp only [memWrite]
    split
    · rename_i z; subst z; simp [memRead]
    · simp [memRead]
  | cons q m ih =>
    obtain ⟨k, w⟩ := q
    obtain ⟨_, h2, h3⟩ := (wf_cons k w m).mp h
    simp only [memWrite]
    split
    · rename_i lt
      split
      · rename_i z
        subst z
        by_cases e : a = b
        · subst e
          simp only [if_true, memRead]
          rw [if_neg (by omega)]
          exact memRead_absent m a fun p hp => lt_trans lt (h2 p hp)
        · simp [e]
      · rfl
    · split
      · rename_i eq
        subst eq
        split
        · rename_i z
          subst z
          by_cases e : a = b
          · subst e; simp [memRead_absent m a h2]
          · simp [memRead, e]
        · by_cases e : a = b <;> simp [memRead, e]
      · rename_i neq
        simp only [memRead, ih h3]
        by_cases e : k = b
        · subst e; simp [neq]
        · simp [e]

/-! ### The free list -/

theorem insertBlock_perm (b : Nat) (free : List Nat) : (insertBlock b free).Perm (b :: free) := by
  induction free with
  | nil => exact List.Perm.refl _
  | cons f free ih =>
    simp only [insertBlock]
    split
    · exact List.Perm.refl _
    · exact (List.Perm.cons f ih).trans (List.Perm.swap b f free)

/-- Freeing puts exactly the blocks named back. -/
theorem freeBlocks_perm (blocks free : List Nat) : (freeBlocks blocks free).Perm (blocks ++ free) := by
  induction blocks with
  | nil => exact List.Perm.refl _
  | cons b blocks ih => exact (insertBlock_perm b _).trans (List.Perm.cons b ih)

theorem freeBlocks_length (blocks free : List Nat) : (freeBlocks blocks free).length = blocks.length + free.length := by
  simpa using (freeBlocks_perm blocks free).length_eq

/-- An allocation moves blocks from the free list into the block lists and loses none (R55). -/
theorem allocate_perm (stages : List Stage) (free : List Nat) :
    ((allocate stages free).1.flatMap Stage.blocks ++ (allocate stages free).2).Perm free := by
  induction stages generalizing free with
  | nil => exact List.Perm.refl _
  | cons st stages ih =>
    simp only [allocate, List.flatMap_cons, List.append_assoc]
    have h := ih (free.drop st.record.need)
    exact (List.Perm.append_left _ h).trans (by rw [List.take_append_drop])

/-! ### Words (R201, R202) -/

/-- A 2w field holds its value's high word first. -/
theorem twoWords_nat (n : Nat) : twoWords n = [word (n / 65536), word (n % 65536)] := by
  simp only [twoWords, word, List.cons.injEq, and_true]
  constructor
  · apply BitVec.eq_of_toNat_eq; simp [BitVec.extractLsb', Nat.shiftRight_eq_div_pow]; omega
  · apply BitVec.eq_of_toNat_eq; simp [BitVec.extractLsb']

theorem append_toNat (a b : Word) : (a ++ b : BitVec 32).toNat = 65536 * a.toNat + b.toNat := by
  rw [BitVec.toNat_append, ← Nat.shiftLeft_add_eq_or_of_lt b.isLt, Nat.shiftLeft_eq]; omega

theorem bodyTwo_toNat (body : List Word) (j : Nat) :
    (bodyTwo body j).toNat = 65536 * (body.getD j 0).toNat + (body.getD (j + 1) 0).toNat := append_toNat _ _

theorem highByte_toNat (w : Word) : (highByte w).toNat = w.toNat / 256 := by
  simp [highByte, BitVec.extractLsb', Nat.shiftRight_eq_div_pow]; have := w.isLt; omega

theorem lowByte_toNat (w : Word) : (lowByte w).toNat = w.toNat % 256 := by simp [lowByte, BitVec.extractLsb']

/-- A coefficient is its high word times 256 and its low byte. -/
theorem coefficientOf_eq (high : Word) (low : BitVec 8) : coefficientOf high low = high.toInt * 256 + low.toNat := by
  have e : (high ++ low : BitVec 24).toNat = 256 * high.toNat + low.toNat := by
    rw [BitVec.toNat_append, ← Nat.shiftLeft_add_eq_or_of_lt low.isLt, Nat.shiftLeft_eq]; omega
  unfold coefficientOf
  rw [BitVec.toInt_eq_toNat_cond, BitVec.toInt_eq_toNat_cond, e]
  have := low.isLt
  have := high.isLt
  split <;> split <;> omega

theorem coefficientHigh_eq (z : Int) : coefficientHigh z = signedWord (z / 256) := by
  unfold coefficientHigh signedWord
  apply BitVec.eq_of_toNat_eq
  simp [BitVec.extractLsb', BitVec.toNat_ofInt, Nat.shiftRight_eq_div_pow]
  omega

theorem coefficientLow_toNat (z : Int) : (coefficientLow z).toNat = (z % 256).toNat := by
  unfold coefficientLow
  simp [BitVec.extractLsb', BitVec.toNat_ofInt]
  omega

end Sys2Proof.Machine
end

