-- ==== Sys2Proof/Laws/Lane.lean ====
section
/-! SUPPORT. What the events, the lane and the dispatch of a parcel can do, said once each: a quiet state settles to
itself, a parcel that nothing waits before executes and its reply is queued, the sum of a parcel's words is 0, and the bits
of the line have their lengths. -/

namespace Sys2Proof.Machine

/-! ### Events -/

theorem attempt_of_due (e : Event) (s : State) (h : due e s = true) : attempt e s = take e s := by simp [attempt, h]

theorem attempt_of_not_due (e : Event) (s : State) (h : due e s = false) : attempt e s = s := by simp [attempt, h]

theorem attemptAll_of_quiet (events : List Event) (s : State) (h : ∀ e ∈ events, due e s = false) :
    attemptAll events s = s := by
  induction events with
  | nil => rfl
  | cons e events ih =>
    have h1 : attempt e s = s := attempt_of_not_due e s (h e (List.mem_cons_self ..))
    simp only [attemptAll, List.foldl_cons, h1]
    exact ih fun f hf => h f (List.mem_cons_of_mem _ hf)

theorem not_due_of_quiet (s : State) (h : quiet s = true) (e : Event) (he : e ∈ settleOrder) : due e s = false := by
  have := List.all_eq_true.mp h e he
  simpa using this

/-- A state in which no event has fallen due settles to itself. -/
theorem settle_of_quiet (s : State) (h : quiet s = true) : settle s = s :=
  attemptAll_of_quiet _ s fun e he => not_due_of_quiet s h e he

/-- A property that every event keeps is kept by settling. -/
theorem settle_induction (P : State → Prop) (keep : ∀ e s, due e s = true → P s → P (take e s)) (s : State) (h : P s) :
    P (settle s) := by
  have key : ∀ (events : List Event) (t : State), P t → P (attemptAll events t) := by
    intro events
    induction events with
    | nil => intro t ht; exact ht
    | cons e events ih =>
      intro t ht
      simp only [attemptAll, List.foldl_cons]
      apply ih
      unfold attempt
      split
      · exact keep e t ‹_› ht
      · exact ht
  exact key _ s h

/-- An event that is due, with none of those before it in the order due, is all that is taken in its turn. -/
theorem inTurn_of_due (e : Event) (s : State) (h : ∀ f ∈ settleOrder.takeWhile (· ≠ e), due f s = false)
    (d : due e s = true) : inTurn e s = take e s := by
  rw [inTurn, attemptAll_of_quiet _ s h, attempt_of_due e s d]

/-- Nothing comes before the next frame of a still state (R73, R81, R102, R154). -/
theorem beforeFrame_of_still (s : State) (h : Still s) : beforeFrame s = s := by
  obtain ⟨a, b, c, d⟩ := h
  simp [beforeFrame, switchIfDue, startIfDue, evaluateIfDue, resetIfDue, a, b, c, d]

/-- What comes before a frame is what its rows leave, each taken if it is due (R73, R81, R102, R154). -/
theorem beforeFrame_rows (s : State) : RowsBeforeFrame s (beforeFrame s) := by
  refine ⟨evaluateIfDue (switchIfDue (startIfDue (switchIfDue s))),
    ⟨switchIfDue s, startIfDue (switchIfDue s), switchIfDue (startIfDue (switchIfDue s)), ?_⟩, ?_⟩
  on_goal 1 => refine ⟨?_, ?_, ?_, ?_, ?_, ?_, ?_, ?_⟩
  on_goal 9 => refine ⟨?_, ?_⟩
  all_goals intro h
  · rw [switchIfDue, if_pos h]
  · rw [switchIfDue, if_neg (by simp [h])]
  · rw [startIfDue, if_pos h]
  · rw [startIfDue, if_neg (by simp [h])]
  · rw [switchIfDue, if_pos h]
  · rw [switchIfDue, if_neg (by simp [h])]
  · rw [evaluateIfDue, if_pos h]
  · rw [evaluateIfDue, if_neg (by simp [h])]
  · rw [beforeFrame, resetIfDue, if_pos h]
  · rw [beforeFrame, resetIfDue, if_neg (by simp [h])]

/-- Before the end of a span the rate watch tests nothing (R170). -/
theorem watchRate_of_running (count : Nat) (s : State) (h : spanEnded s.lif = false) : watchRate count s = s := by
  simp [watchRate, h]

/-- With nothing held, a lane word leaves behind a notice that is due, and no parcel executes (R184, R185, R192). -/
theorem laneOut_of_no_hold (s : State) (h : (takeLaneWord (noticeIfDue s)).2.lct.hold = []) :
    laneOut s = takeLaneWord (noticeIfDue s) := by
  simp [laneOut, drainHold, h]

/-! ### The line -/

@[simp] theorem wordBits_length {n : Nat} (w : BitVec n) : (wordBits w).length = n := by simp [wordBits]

@[simp] theorem checkedBits_length (number : BitVec 8) (slots : Vector (BitVec 32) 8) (lane : Word) :
    (checkedBits number slots lane).length = 280 := by
  simp [checkedBits, List.length_flatMap]

/-! ### Parcels -/

@[simp] theorem ofCode_code (k : Kind) : Kind.ofCode (Kind.code k) = some k := by cases k <;> rfl

theorem wordSum_append (a b : List Word) : wordSum (a ++ b) = wordSum a + wordSum b := by
  induction a with
  | nil => simp [wordSum]
  | cons w a ih =>
    have h : wordSum (w :: a ++ b) = w + wordSum (a ++ b) := rfl
    have g : wordSum (w :: a) = w + wordSum a := rfl
    rw [h, ih, g, BitVec.add_assoc]

/-- The words of every parcel sum to 0 (R200). -/
theorem wordSum_parcelWords (kind : BitVec 6) (tag : Word) (body : List Word) : wordSum (parcelWords kind tag body) = 0 := by
  simp only [parcelWords, wordSum_append]
  have : ∀ w : Word, wordSum [w] = w := fun w => by simp [wordSum]
  rw [this, checkWord]
  exact BitVec.add_right_neg _

@[simp] theorem parcelWords_length (kind : BitVec 6) (tag : Word) (body : List Word) :
    (parcelWords kind tag body).length = body.length + 3 := by
  simp [parcelWords]

@[simp] theorem queueLength_append (a b : List (List Word)) : queueLength (a ++ b) = queueLength a + queueLength b := by
  simp [queueLength]

/-! ### Dispatch -/

theorem guard_of_admitted (k : Kind) (s : State) (h : Admitted k s) : guardRefuses k s = false := by
  unfold guardRefuses
  unfold Admitted at h
  cases hg : kindGuarded k <;> cases hl : s.lct.showLocked <;> cases hp : s.lct.permit <;> simp_all

/-- A parcel that nothing waits before executes at once (R183). -/
theorem arrive_of_clear (k : Kind) (tag : Word) (body : List Word) (s : State) (h : Clear k s) :
    arriveParcel { kind := Kind.code k, tag := tag, body := body } (settle s) =
      executeParcel { kind := Kind.code k, tag := tag, body := body } s := by
  obtain ⟨hq, hh, hr⟩ := h
  rw [settle_of_quiet s hq]
  unfold arriveParcel
  rw [if_pos]
  simp [hh, hasRoom, Parcel.largestReply, hr]

/-- What the execution of an accepted and admitted parcel leaves: its owning block's effect, on the state with the permit
consumed and the place of the reply held in the queue, and the queue as it stood (R149, R186, R193). -/
theorem executed_of_admitted (k : Kind) (tag : Word) (body : List Word) (s : State)
    (len : kindAccepts k body.length = true) (adm : Admitted k s) :
    executed { kind := Kind.code k, tag := tag, body := body } s =
      { kindEffect k body (consumePermit (executing s)) with
        state := setQueue s.lct.queue (kindEffect k body (consumePermit (executing s))).state } := by
  have adm' : guardRefuses k (executing s) = false := guard_of_admitted k (executing s) (by simpa [Admitted] using adm)
  simp [executed, parcelAnswer, len, adm']

/-- An accepted and admitted parcel reaches its owning block with the permit consumed, and its reply is queued (R186,
R187, R149). -/
theorem execute_of_admitted (k : Kind) (tag : Word) (body : List Word) (s : State) (len : kindAccepts k body.length = true)
    (adm : Admitted k s) :
    executeParcel { kind := Kind.code k, tag := tag, body := body } s =
      let a := kindEffect k body (consumePermit (executing s))
      replied k tag a.code a.data (setQueue s.lct.queue a.state) := by
  simp [executeParcel, executed_of_admitted k tag body s len adm, reply, replied]

/-- What a parcel does when nothing waits before it, its body length suits its kind and the guard admits it. -/
theorem arrive_of_admitted (k : Kind) (tag : Word) (body : List Word) (s : State) (clear : Clear k s)
    (len : kindAccepts k body.length = true) (adm : Admitted k s) :
    arriveParcel { kind := Kind.code k, tag := tag, body := body } (settle s) =
      let a := kindEffect k body (consumePermit (executing s))
      replied k tag a.code a.data (setQueue s.lct.queue a.state) := by
  rw [arrive_of_clear k tag body s clear, execute_of_admitted k tag body s len adm]

/-- No notice is due while a parcel executes: its reply is in the queue before the classes it sets join (R192, R193). -/
@[simp] theorem noticeDue_executing (s : State) : noticeDue (executing s) = false := noticeDue_of_queued _ (by simp)

@[simp] theorem withIndex_val (n : Nat) (i : Fin n) (s : State) (f : Fin n → Answer) : withIndex n i.val s f = f i := by
  simp [withIndex, index_lt n i.val i.isLt]

theorem withIndex_ge (n a : Nat) (s : State) (f : Fin n → Answer) (h : n ≤ a) : withIndex n a s f = refuse .range s := by
  simp [withIndex, index_ge n a h]

@[simp] theorem word_toNat (n : Nat) (h : n < 65536) : (word n).toNat = n := by
  simp [word, Nat.mod_eq_of_lt h]

/-- An unguarded kind is admitted in every state. -/
theorem admitted_of_unguarded (k : Kind) (s : State) (h : kindGuarded k = false) : Admitted k s := by simp [Admitted, h]

end Sys2Proof.Machine
end

