-- ==== Sys2Proof/Tests/Slice0.lean ====
section
/-! SUPPORT. Tests. The ill-formed terms that WellFormed refuses; the worked examples of the manual, each with the section
it stands in; one-step runs of the commands; and, for each statement with hypotheses, states and operands that meet them,
at the ends of their ranges. Expected values come from the manual or from hand calculation by its rules. -/

namespace Sys2Proof.Tests

set_option Elab.async false

open Sys2Proof Sys2Proof.Machine

/-! ### States and runs -/

/-- The state after a command. -/
def after (i : Instr) (s : State) : State :=
  match exec i s with
  | .next t => t
  | .fault _ => s
  | .refused _ => s

/-- The result code and data of the last reply queued by a command. -/
def answer (i : Instr) (s : State) : List Word := (((after i s).lct.queue.getLastD []).drop 2).dropLast

/-- A link record in a state, at 48 kHz. -/
def lifIn (state : LinkState) : Lif := { Lif.reset with state := state, rate := some .r48000, count := some 32768 }

/-- The part with its link in a state, at 48 kHz. -/
def linked (state : LinkState) : State := { State.reset with lif := lifIn state }

/-- The part LOCKED at 48 kHz. -/
def locked : State := linked .locked

/-- The part LOCKED, under show lock. -/
def lockedShow : State := { locked with lct := { Lct.reset with showLocked := true } }

/-- A good frame. -/
def frame (number : BitVec 8) (lane : Word) : Frame := buildFrame number (Vector.replicate 8 0) lane

/-- A frame whose check byte does not match. -/
def badFrame (number : BitVec 8) (lane : Word) : Frame :=
  { frame number lane with check := (frame number lane).check + 1 }

/-- A stage that has just been loaded, with blocks. -/
def stageOf (p : StageParams) (blocks : List Nat) : Stage :=
  { Stage.load { params := p, bypass := false, sheddable := false } with blocks := blocks }

/-- A DELAY of one block that spills, with the parameters of Table 3-3. -/
def echo (spill : Bool) : DelayParams :=
  { maxLength := 3, mode := .fixed, fixedLength := 3, division := .quarter, feedback := 16384, wet := 16384,
    spill := spill, spillLimit := 3 }

/-- A context in a state, with a TRIM and a DELAY that holds block 0. -/
def ctxIn (state : CtxState) (spill : Bool) : Ctx :=
  { Ctx.empty with state := state, scene := some 5
                   stages := [stageOf (.trim 4096) [], stageOf (.delay (echo spill)) [0]] }

/-- The part LOCKED, with context 0 of chain 0 as given and a fade on that chain. -/
def withCtx (k : Ctx) (f : Fade) : State :=
  { locked with
    scc := { Scc.reset with ctxs := setCtx Scc.reset.ctxs 0 0 k, fades := upd Scc.reset.fades 0 f }
    dpl := { free := (List.range 48).drop 1, mem := [] } }

/-- The part LOCKED with a LIVE context on chain 0. -/
def playing : State := withCtx (ctxIn .live true) Fade.rest

/-- A scene with one RUN section on chain 0: a TRIM and a DELAY of one block. -/
def scene : Scene :=
  { exponent := 6, tempo := some 12000
    sections := upd (Vector.replicate 4 SceneSection.fresh) 0
      { mode := .run, pan := 0, count := 2
        stages := upd (Vector.replicate 12 StageRecord.default) 1
          { params := .delay (echo false), bypass := false, sheddable := false } } }

/-- A scene whose four RUN sections need 32 blocks each. -/
def greedy : Scene :=
  { exponent := 6, tempo := none
    sections := Vector.replicate 4
      { mode := .run, pan := 0, count := 1
        stages := Vector.replicate 12
          { params := .delay { echo false with maxLength := 131072 }, bypass := false, sheddable := false } } }

/-- A scene whose four RUN sections cost far more than any budget, which no pass of a trial lowers enough. -/
def costly : Scene :=
  { exponent := 6, tempo := none
    sections := Vector.replicate 4
      { mode := .run, pan := 0, count := 12
        stages := Vector.replicate 12 { params := .cab 0 128, bypass := false, sheddable := false } } }

/-- The part LOCKED with scene 5 in the store. -/
def stored : State := { locked with scc := { Scc.reset with scenes := upd Scc.reset.scenes 5 (some scene) } }

/-- The change to scene 5 in flight, its standby contexts the contexts 0. -/
def change (r : Request) : InFlight := { request := r, target := 5, copy := scene, standby := Vector.replicate 4 0 }

/-- The change to scene 5 in flight in a change state. -/
def changing (state : ChangeState) (r : Request) : State :=
  { stored with scc := { stored.scc with change := state, inFlight := some (change r), stack := [7, 9], live := some 3 } }

/-- A line record with a hold action. -/
def lineRecord (hold : Action) : LineRecord :=
  { enabled := true, closedHigh := false, holdTime := 60, press := .panic, hold := hold }

/-- The part LOCKED with line 2 as given, the others DISABLED. -/
def withLine (l : Line) : State := { locked with tfu := { Tfu.reset with lines := upd Tfu.reset.lines 2 l, tick := 1006 } }

/-- A line in OPEN that has read low on four ticks. -/
def pressed (hold : Action) : Line :=
  { record := lineRecord hold, high := true, changes := 4, state := .opened, holdCount := 0, deferred := false }

/-- A line in a closed state whose debounced level is low. -/
def closedLine (state : LineState) (holdCount changes : Nat) (deferred : Bool) : Line :=
  { record := lineRecord .tap, high := false, changes := changes, state := state, holdCount := holdCount,
    deferred := deferred }

/-- Every kind of parcel. -/
def kinds : List Kind := ((List.range 64).map fun n => BitVec.ofNat 6 n).filterMap Kind.ofCode

/-! ### WellFormed -/

/-- A body of 64 words, one more than a parcel carries. -/
def longBody : List Word := List.replicate 64 0

/-- A body of 64 words is refused, whatever the kind. -/
theorem test_wf_refuses_long_bodies :
    (kinds.all fun k => !(Instr.ofParcel (Kind.code k) 0 longBody).wf) = true ∧ kinds.length = 41 ∧
      (Instr.unknownKind 63 0 longBody).wf = false := by decide +kernel

/-- A command of an unknown kind may not carry a kind of Table 11-4. -/
theorem test_wf_refuses_known_kinds : (kinds.all fun k => !(Instr.unknownKind (Kind.code k) 0 []).wf) = true := by
  decide +kernel

/-- A measured count is above 0. -/
theorem test_wf_refuses_empty_counts :
    (Instr.measurementComplete 0).wf = false ∧ (Instr.rateDeparture 0).wf = false := by decide

/-- Bodies of 63 words are accepted, and so are the unknown kinds 0, 42 and 63. -/
theorem test_wf_accepts_the_ends :
    (kinds.all fun k => (Instr.ofParcel (Kind.code k) 0 (List.replicate 63 0)).wf) = true ∧
      ([0, 42, 63].all fun k => (Instr.unknownKind k 7 []).wf) = true := by decide +kernel

/-! ### Words of the manual (R177, R200, 10.10) -/

/-- The *Permit* with tag 0x0005 of R200, read back. -/
theorem test_permit_words :
    (Instr.permit 5 []).laneWords = some [0xC7C0, 0x0005, 0x383B] ∧
      Instr.ofLaneWords [0xC7C0, 0x0005, 0x383B] = some (.permit 5 []) := by decide +kernel

/-- Words whose sum is not 0 are no parcel (R181). -/
theorem test_bad_sum_is_no_parcel : Instr.ofLaneWords [0xC7C0, 0x0005, 0x383C] = none := by decide +kernel

/-- The check bytes of R177. -/
theorem test_check_bytes :
    [0, 1, 2].map (checkByte 0 (Vector.replicate 8 0)) = [(0 : BitVec 8), 7, 14] := by decide +kernel

/-- Slot words in both formats: bits 31 to 8, and bits 23 to 0 with the sign above (R178). -/
theorem test_slot_words :
    SlotFormat.left.slotWord (-1) = 0xFFFFFF00 ∧ SlotFormat.right.slotWord (-1) = 0xFFFFFFFF ∧
      SlotFormat.left.sample 0x800000FF = -8388608 ∧ SlotFormat.right.sample 0xFF7FFFFF = 8388607 := by decide

/-! ### The line (chapter 9, Table 11-1) -/

/-- The sync pattern of R199, and the bits of an idle frame of number 200: 304 of them, read back at its position. -/
theorem test_frame_bits :
    wordBits syncPattern = [true, true, true, false, false, true, false, true,
        true, false, true, true, false, false, false, false] ∧
      (frameBits (frame 200 0)).length = 304 ∧ ((frameBits (frame 200 0)).drop 16).take 8 = wordBits (200 : BitVec 8) ∧
      frameAt (true :: frameBits (frame 200 0x1234)) 1 = frame 200 0x1234 := by decide +kernel

/-- Three idle frames after a lone sync pattern: the lone find is dropped, and the hunt ends at the second frame (R168). -/
def huntedLine : List Bool :=
  wordBits syncPattern ++ [true] ++ frameBits (frame 1 0) ++ frameBits (frame 2 0) ++ frameBits (frame 3 0)

/-- The hunt, and what it brings about in SEARCH and in HOLDOVER (R168, R174). -/
theorem test_hunt :
    syncAt huntedLine 0 = true ∧ hunt huntedLine = some (17 + 304) ∧ searchCommand huntedLine 0 = some .enterMeasure ∧
      holdoverCommand huntedLine 0 322 = some (.holdoverReturn (frame 2 0)) ∧ holdoverCommand huntedLine 0 321 = none ∧
      hunt (wordBits syncPattern) = none := by decide +kernel

/-- The bits of a frame of a line that shows sync. -/
def syncedFrame : List Bool := wordBits syncPattern ++ List.replicate 288 false

/-- Its length. -/
theorem test_synced_frame_length : syncedFrame.length = 304 := by decide +kernel

/-- A line of frames that show sync. -/
def syncedLine (frames : Nat) : List Bool := (List.replicate frames syncedFrame).flatten

/-- WorkedWordsOfTheManual: the 64 expected positions of a measurement on a line of 65 frames show sync (R169). -/
theorem witness_measured_line (k : Nat) (hk : k ≤ 64) : syncAt (syncedLine 65) (304 * k) = true := by
  have e : List.replicate 65 syncedFrame = List.replicate k syncedFrame ++ syncedFrame :: List.replicate (64 - k) syncedFrame := by
    rw [← List.replicate_succ, ← List.replicate_add]; congr 1; omega
  have l : (List.replicate k syncedFrame).flatten.length = 304 * k := by simp [test_synced_frame_length, Nat.mul_comm]
  rw [syncAt, syncedLine, e, List.flatten_append, List.flatten_cons, List.drop_append_of_le_length (by omega), ← l,
    List.drop_length, List.nil_append, List.take_append_of_le_length (by rw [test_synced_frame_length]; omega)]
  decide

/-- A line in LOCKED: the frame at the expected position, or a missing sync (R170, R173). -/
theorem test_locked_line :
    lockedCommand huntedLine 17 = .frameReceived (frame 1 0) ∧ lockedCommand huntedLine 18 = .missingSync ∧
      measureCommand huntedLine 17 32768 = .measureSyncMissing := by decide +kernel

/-! ### Stages (chapters 1 to 3) -/

/-- The example of R9. -/
theorem test_trim : trimOut 2048 (-1001) = -500 ∧ trimOut 6144 (-1001) = -1501 := by decide

/-- Table 1-4. -/
theorem test_gate :
    (gateStep 100000 60000 3 ⟨60100, .opened, 0, 256⟩ 1000) = (⟨59866, .held, 3, 256⟩, 1000) ∧
      (gateStep 100000 60000 3 ⟨59401, .held, 1, 256⟩ 1000) = (⟨59169, .closed, 0, 255⟩, 996) ∧
      (gateStep 100000 60000 3 ⟨59169, .closed, 0, 255⟩ 150000) = (⟨150000, .opened, 0, 256⟩, 150000) := by
  decide +kernel

/-- Table 1-5: frames 1, 3 and 7. -/
theorem test_filter :
    let step := filterStep 2097152 2097152 0 (-2097152) 0
    step ⟨0, 0, 0, 0⟩ 1000000 = (⟨1000000, 0, 500000, 0⟩, 500000) ∧
      (step ⟨1000000, 1000000, 1250000, 500000⟩ 0).2 = 1125000 ∧ (step ⟨0, 0, 140625, 281250⟩ 0).2 = 70313 := by
  decide +kernel

/-- The example of 1.7: FREE at A = 1,073,736,000, and the phase in SYNC. -/
theorem test_tremolo :
    tremoloStep 128 .free 48000 .eighth ⟨24000, 0, 0⟩ 1073736000 4000000 = (1073736000 + 89478, 3000061) ∧
      syncPhase .eighth ⟨24000, 15000, 1⟩ = 16384 := by decide +kernel

/-- Driven value, sub-samples and level of R29, R30 and R32. -/
theorem test_shaper_steps :
    drive 4096 (-5000000) = -8388608 ∧ subSample 5000000 6000000 1 4 = 5250000 ∧ subSample 0 (-3) 1 2 = -1 ∧
      saturate (roundDiv (5929873 * 40000) 32768) = 7238615 := by decide

/-- The curve of Tables 2-2 and 2-3, as far as they name it. -/
def curve : Vector Int 257 :=
  upd (upd (upd (upd (Vector.replicate 257 0) 211 5519872) 212 5570048) 219 5904896) 220 5950208

/-- Table 2-2: the frame with N = 1. -/
theorem test_shaper_frame : shaperStep 512 curve 1 32768 0 3000000 = (6000000, 5929942) := by decide +kernel

/-- Table 2-4: the first three frames. -/
theorem test_cab :
    let taps : Vector Int 128 := upd (upd (upd (Vector.replicate 128 0) 0 4194304) 1 2097152) 2 (-1048576)
    (cabStep taps 3 (List.replicate 127 0) 1000000).2 = 500000 ∧
      (cabStep taps 3 (1000000 :: List.replicate 126 0) 0).2 = 250000 ∧
      (cabStep taps 3 (0 :: 1000000 :: List.replicate 125 0) 0).2 = -125000 := by decide +kernel

/-- Table 3-3: the first seven frames. -/
theorem test_echo :
    delayOutputs (echo false) 24000 [1000000, 0, 0, 0, 0, 0, 0]
      { stageOf (.delay (echo false)) [0] with proc := { Proc.zero with line := ⟨0, 0, some 3⟩ } } [] =
        [1000000, 0, 0, 500000, 0, 0, 250000] := by decide +kernel

/-- The examples of R19, R83 and R84. -/
theorem test_mixing :
    panPair 16 1000000 = (750000, 1000000) ∧ panPair (-21) 1000000 = (1000000, 671875) ∧
      crossfade 64 16 1000001 (-200000) = 700001 ∧ dipMix 8 800000 0 = 600000 ∧ dipMix 40 0 (-400000) = -100000 := by
  decide

/-- The example of R21: a main pair and one tail pair. -/
theorem test_chain_output :
    outputPair false Fade.rest 0 ⟨ctxIn .live true, some (8000000, 2000000), []⟩
      ⟨ctxIn .spilling true, some (600000, -300000), []⟩ = (8388607, 1700000) := by decide +kernel

/-! ### Tempo and tuner (chapters 5 and 6) -/

/-- The examples of R99, R95 and R101. -/
theorem test_periods :
    periodOf 48000 7200 = 40000 ∧ periodOf 44100 13500 = 19600 ∧ periodOf 88200 9700 = 54557 ∧
      (applyPeriod .parcel 40000 { locked with tfu := { Tfu.reset with phase := 18000 } }).tfu.phase = 30000 ∧
      roundDivNat (23983 * 44100) 48000 = 22034 := by decide +kernel

/-- Table 5-2: the tap at 71,950 and the tempo it gives. -/
theorem test_tap_applied :
    answer (.tap 1 []) { locked with tfu := { Tfu.reset with frames := 71950, previousTap := some 48100
                                                             taps := [24000, 24100] } } = [0, 3, 3, 0, 23983] ∧
      tempoOf 48000 23983 = 12009 := by decide +kernel

/-- Table 5-2: the taps at 30,000 and at 200,000. -/
theorem test_tap_ignored_and_restart :
    let at_ (now last : Nat) : State :=
      { locked with tfu := { Tfu.reset with frames := now, previousTap := some last, taps := [24000] } }
    answer (.tap 1 []) (at_ 30000 24000) = [0, 2, 1, 0, 24000] ∧
      answer (.tap 1 []) (at_ 200000 71950) = [0, 1, 0, 0, 24000] := by decide +kernel

/-- The crossings of 6.3. -/
theorem test_crossing_times : risingTime 1001 (-300000) 500000 = 256096 ∧ fallingTime 1291 200000 (-600000) = 330304 := by
  decide

/-- The low E of 6.4. -/
theorem test_low_e : judge 48000 4400 1195008 1190707 = some ⟨40, 1, 8241⟩ := by decide +kernel

/-! ### Router, governor, supply (chapters 7 and 8) -/

/-- Table 7-3: frames 101 and 136, and the trim of the paragraph after it. -/
theorem test_ramp :
    crossfade 64 1 2000000 0 = 1968750 ∧ crossfade 64 16 0 1200000 = 300000 ∧ slotOutput 49152 750001 = 1125002 := by
  decide

/-- Table 8-4: the stages of chain 0. -/
def heavyList : List Stage :=
  let shaper := stageOf (.shaper 256 0 3 32768) []
  let filter := stageOf (.filter 0 0 0 0 0) []
  [filter, shaper, shaper, shaper, filter, stageOf (.cab 0 128) [], stageOf (.delay (echo false)) []]

/-- Table 8-4: the stages of chain 2. -/
def lightList : List Stage :=
  let shaper := stageOf (.shaper 256 0 2 32768) []
  [shaper, shaper, stageOf (.cab 0 96) [], stageOf (.trim 4096) []]

/-- The running set of Table 8-4. -/
def running : RunSet :=
  let live (stages : List Stage) : Ctx := { Ctx.empty with state := .live, stages := stages }
  { ctxs := setCtx (setCtx (setCtx Scc.reset.ctxs 0 0 (live heavyList)) 1 0 (live heavyList)) 2 0 (live lightList)
    fades := Scc.reset.fades, bypass := Vector.replicate 4 false, free := [] }

/-- The guard entry of 8.3: a demand of 670, one halving, at stage 3 of chain 1, and a demand of 638. -/
theorem test_guard_entry :
    running.demand = 670 ∧ (passes 640 running).halvings = 1 ∧ (passes 640 running).set.demand = 638 ∧
      ((passes 640 running).set.ctxs[1][0].stages.map fun st => st.effective.val) = [0, 3, 3, 2, 0, 0, 0] := by
  decide +kernel

/-- The readings of Table 8-6 and of R163. -/
theorem test_readings : readingValue 2318 2306 = 462 ∧ readingValue 2355 2350 = 471 ∧ readingValue 2350 2345 = 470 := by
  decide

/-! ### One step of each command -/

/-- POWER_ON keeps the queue of commands and nothing else. -/
theorem test_power_on : after .powerOn (playing.withPending [.beat]) = State.reset.withPending [.beat] := by
  decide +kernel

/-- *Write Chain Input*: slot and trim clamped. -/
theorem test_write_chain_input :
    answer (.writeChainInput 1 [2, 9, 5, 3]) locked = [0] ∧
      (after (.writeChainInput 1 [2, 9, 5, 3]) locked).chp.inputs[2] = ⟨7, 3, true⟩ := by decide +kernel

/-- *Set Live Parameter*: the TRIM gain, clamped, and a stage that is not there. -/
theorem test_set_live_parameter :
    answer (.setLiveParameter 1 [0, 0, 0, 1, 0]) playing = [0, 0, 32767] ∧
      answer (.setLiveParameter 1 [0, 2, 0, 1, 0]) playing = [4] := by decide +kernel

/-- *Set Stage Bypass* sets the flag and marks an evaluation. -/
theorem test_set_stage_bypass :
    answer (.setStageBypass 1 [0, 1, 1]) playing = [0, 1] ∧
      (after (.setStageBypass 1 [0, 1, 1]) playing).bgv.evaluate = true := by decide +kernel

/-- *Write Curve Points*: a run that ends at point 256 commits. -/
theorem test_write_curve_points :
    answer (.writeCurvePoints 1 [5, 256, 0x7FFF]) locked = [0, 1] ∧
      (after (.writeCurvePoints 1 [5, 255, 0x8000]) locked).chp.curves[5].live[255] = 8323072 := by decide +kernel

/-- *Read Curve Points* of the default curve. -/
theorem test_read_curve_points : answer (.readCurvePoints 1 [5, 255, 2]) locked = [0, 5, 255, 0x7F00, 0x7FFF] := by
  decide +kernel

/-- *Write Cab Taps* in the shadow. -/
theorem test_write_cab_taps :
    answer (.writeCabTaps 1 [7, 0, 0xFFFF]) locked = [0, 0] ∧
      (after (.writeCabTaps 1 [7, 0, 0xFFFF]) locked).chp.cabs[7].shadow[0] = -256 := by decide +kernel

/-- *Read Cab Taps* of the default cabinet. -/
theorem test_read_cab_taps : answer (.readCabTaps 1 [7, 0, 2]) locked = [0, 7, 0, 0x7FFF, 0] := by decide +kernel

/-- *Read Pool*: 47 free blocks, and block 0 with chain 0, context 0, stage 1. -/
theorem test_read_pool : (answer (.readPool 1 []) playing).take 3 = [0, 47, 0x0180] := by decide +kernel

/-- *Write Scene Header* and *Erase Scene*. -/
theorem test_headers :
    ((after (.writeSceneHeader 1 [5, 20, 1, 100]) locked).scc.scenes[5].map fun t => (t.exponent, t.tempo)) =
        some (12, some 3000) ∧
      (after (.eraseScene 1 [5]) stored).scc.scenes[5] = none := by decide +kernel

/-- *Write Section* and *Write Stages* on a present scene, and on an absent one. -/
theorem test_sections :
    ((after (.writeSection 1 [5, 1, 2, 0xFF00, 20]) stored).scc.scenes[5].map fun t =>
        (t.sections[1].mode, t.sections[1].pan, t.sections[1].count)) = some (.run, -64, 12) ∧
      answer (.writeSection 1 [6, 1, 2, 0, 0]) stored = [6] ∧
      answer (.writeStages 1 [5, 1, 11, 0, 4096, 0, 0, 0, 0, 0, 0, 0, 0]) stored = [0] := by decide +kernel

/-- *Read Scene*: header, tempo, section, pan and the run of records. -/
theorem test_read_scene :
    (answer (.readScene 1 [5, 0, 11]) stored).take 6 = [0, 0x8006, 12000, 0x0202, 0, 0x010B] := by decide +kernel

/-- *Select*, *Call* and *Return* that start or fail. -/
theorem test_requests :
    answer (.select 1 [5, 0]) stored = [1] ∧ answer (.call 1 [6]) stored = [6] ∧ answer (.ret 1 []) stored = [7] := by
  decide +kernel

/-- A request that starts loads at once: the standby context takes block 0 (R76 to R79). -/
theorem test_select_loads :
    let t := after (.select 1 [5, 0]) stored
    t.scc.change = .loading ∧ (t.scc.ctx 0 0).state = .loading ∧ (t.scc.ctx 0 0).blocks = [0] := by decide +kernel

/-- *Read Context Status*: the fade, and the state, stage count, scene and blocks of the first context. -/
theorem test_read_context_status :
    ((answer (.readContextStatus 1 []) playing).drop 4).take 2 = [0x0203, 0x0105] := by decide +kernel

/-- *Set Tempo* at 72.00 BPM. -/
theorem test_set_tempo : answer (.setTempo 1 [7200]) locked = [0, 0, 40000, 7200] := by decide +kernel

/-- *Tempo Reset*, and the reset taken in the middle of a beat. -/
theorem test_tempo_reset :
    (after (.tempoReset 1 []) locked).tfu.resetFlag = true ∧
      (after .tempoResetTaken { locked with tfu := { Tfu.reset with resetFlag := true, phase := 5, group := 3 } }).tfu.beats
        = 1 := by decide +kernel

/-- *Write Footswitch Line* enables a line. -/
theorem test_write_footswitch_line :
    (after (.writeFootswitchLine 1 [2, 1, 0, 500, 6, 0, 7, 0x0914]) locked).tfu.lines[2] =
      ⟨⟨true, false, 200, .panic, .stageToggle 3 11⟩, true, 0, .opened, 0, false⟩ := by decide +kernel

/-- *Read Footswitch Log* of one entry of Table 5-5. -/
theorem test_read_footswitch_log :
    answer (.readFootswitchLog 1 [1]) { locked with tfu := { Tfu.reset with log := [⟨2, .release, 1304⟩] } } =
      [0, 1, 0x0022, 1304] := by decide +kernel

/-- *Write Tuner Channel*, *Set Tuner Engage* and *Set Tuner Reference*. -/
theorem test_tuner_parcels :
    answer (.writeTunerChannel 1 [3, 1, 0]) locked = [0, 3, 1, 0] ∧ answer (.setTunerEngage 1 [2]) locked = [0, 1] ∧
      answer (.setTunerReference 1 [5000]) locked = [0, 4660] := by decide +kernel

/-- *Write Route* and *Set Panic*. -/
theorem test_route_and_panic :
    answer (.writeRoute 1 [2, 0x0101, 0x0004, 32768, 2]) locked = [0, 2, 0x0101, 4, 32768, 2] ∧
      answer (.setPanic 1 [2]) locked = [0, 1] := by decide +kernel

/-- *Read Routes* after power-on: panic off, UNLOCKED, and slot 0 owned by FILL. -/
theorem test_read_routes :
    (answer (.readRoutes 1 []) locked).take 7 = [0, 0, 0x8000, 0x8000, 32768, 2, 0x0704] := by decide +kernel

/-- Table 7-4: refused without a permit, RANGE under one. -/
theorem test_permit_run :
    answer (.writeRoute 1 [2, 0, 4, 32768, 2]) lockedShow = [5] ∧ answer (.permit 1 []) lockedShow = [0, 1] ∧
      answer (.writeRoute 1 [9, 0, 4, 32768, 2]) (after (.permit 1 []) lockedShow) = [4] ∧
      answer (.showLockOff 1 []) (after (.permit 1 []) lockedShow) = [0, 0] ∧
      answer (.showLockOn 1 []) locked = [0, 1] := by decide +kernel

/-- *Force Guard On* and *Force Guard Off*. -/
theorem test_force :
    answer (.forceGuardOn 1 []) locked = [0, 2, 1] ∧
      answer (.forceGuardOff 1 []) (after (.forceGuardOn 1 []) locked) = [0, 0, 0] := by decide +kernel

/-- *Supply Check*: a new measurement, and one that joins. -/
theorem test_supply_check :
    answer (.supplyCheck 1 []) locked = [0, 0] ∧
      answer (.supplyCheck 1 []) (after (.supplyCheck 1 []) locked) = [0, 1] := by decide +kernel

/-- *Write Link Format*, *Write Notice Mask*, *Read Notices* and *Read Counters*. -/
theorem test_lane_parcels :
    answer (.writeLinkFormat 1 [1, 0]) locked = [0, 1, 0] ∧ answer (.writeNoticeMask 1 [0xABFF]) locked = [0, 0xFF] ∧
      answer (.readNotices 1 []) { locked with lct := { Lct.reset with notices := 0x80 } } = [0, 0x80] ∧
      answer (.readCounters 1 [1]) { locked with lct := { Lct.reset with counters := ⟨1, 2, 3, 4, 5, 6, 7, 8, 9⟩ } } =
        [0, 1, 2, 3, 4, 5, 6, 7, 8, 9] := by decide +kernel

/-- *Read Mailboxes* of mailbox 4 after power-on, and *Identify*. -/
theorem test_read_mailboxes :
    answer (.readMailboxes 1 [4, 1]) locked = [0, 0x0104, 0, 0, 0, 24000, 12000, 0, 0] ∧
      answer (.identify 1 []) locked = [0, 0x0D5E, 0x04C1, 1] := by decide +kernel

/-- *Restart* takes the LIVE context to IDLE and frees its blocks. -/
theorem test_restart :
    answer (.restart 1 []) playing = [0] ∧ (after (.restart 1 []) playing).dpl.free = List.range 48 := by decide +kernel

/-- A kind that no command has, and a body that is too long. -/
theorem test_refusals :
    answer (.unknownKind 42 1 []) locked = [2] ∧ answer (.permit 1 [0]) locked = [3] := by decide +kernel

/-- PARCEL_COMPLETE on the words of a *Permit*, and on words whose sum is not 0. -/
theorem test_parcel_complete :
    let having (words : List Word) : State := { locked with lct := { Lct.reset with arrived := some words } }
    (after .parcelComplete (having [0xC7C0, 5, 0x383B])).lct.permit = true ∧
      (after .parcelComplete (having [0xC7C0, 5, 0x383C])).lct.counters.laneChecks = 1 := by decide +kernel

/-- NOTICE: classes in the mask leave, BEAT stays (R192). -/
theorem test_notice :
    let t := after .notice { locked with lct := { Lct.reset with notices := 0x81 } }
    t.lct.queue = [[0xCFC1, 0, 0x0001, 0x303E]] ∧ t.lct.notices = 0x80 := by decide +kernel

/-- The link of 9.7 comes back at 44.1 kHz: the period of 23,983 frames becomes 22,034. -/
theorem test_lock_at_another_rate :
    let t := after (.measurementComplete 35600) { linked .measure with tfu := { Tfu.reset with period := 23983 } }
    t.lif.rate = some .r44100 ∧ t.tfu.period = 22034 ∧
      (after (.measurementComplete 36000) (linked .measure)).lct.counters.unsupported = 1 := by decide +kernel

/-- LOCKED at 48 kHz with n positions of the rate watch's span taken. -/
def watched (n : Nat) : State := { locked with lif := { lifIn .locked with span := n } }

/-- ENTER_MEASURE, MEASURE_SYNC_MISSING and IDLE_FRAME. -/
theorem test_search_and_measure :
    (after .enterMeasure State.reset).lif.state = .measure ∧
      (after .measureSyncMissing (linked .measure)).lif.state = .search ∧
      (after .idleFrame State.reset).lif.sent = some (frame 1 0) := by decide +kernel

/-- Table 9-3: positions 1 to 3. -/
theorem test_frames_received :
    let expecting : State := { locked with lif := { lifIn .locked with expected := some 200 } }
    (after (.frameReceived (frame 200 0)) expecting).lif.expected = some 201 ∧
      (after (.frameReceived (badFrame 201 0)) expecting).lct.counters.frameChecks = 1 ∧
      (after (.frameReceived (frame 203 0)) expecting).lct.counters.slips = 1 := by decide +kernel

/-- A frame of a LIVE context goes through the chains: the outputs are those of the processed frame. -/
theorem test_frame_runs_chains :
    (after (.frameReceived (frame 1 0)) playing).chp.outputs[0] = some (0, 0) ∧
      (after (.frameReceived (frame 1 0)) playing).tfu.phase = 1 := by decide +kernel

/-- Table 9-3: positions 4 to 6 and the return. -/
theorem test_missing_syncs :
    let missed (n : Nat) : State := { locked with lif := { lifIn .locked with misses := n } }
    (after .missingSync (missed 0)).lif.misses = 1 ∧ (after .missingSync (missed 2)).lif.state = .holdover ∧
      (after .enterHoldover (missed 2)).lif.periods = 1 ∧
      (after (.holdoverReturn (frame 17 0)) (linked .holdover)).lif.expected = some 18 := by decide +kernel

/-- HOLDOVER_PERIOD counts, and the 32nd period ends in SEARCH with a link loss. -/
theorem test_holdover :
    let held (n : Nat) : State := { linked .holdover with lif := { lifIn .holdover with periods := n } }
    (after .holdoverPeriod (held 4)).lif.periods = 5 ∧ (after .holdoverExpiry (held 32)).lct.counters.losses = 1 := by
  decide +kernel

/-- RATE_DEPARTURE outside and inside the window of 48 kHz, at the end of a span and before it. -/
theorem test_rate_departure :
    (after (.rateDeparture 33000) (watched 64)).lif.state = .search ∧
      (after (.rateDeparture 32900) (watched 64)).lif = (watched 0).lif ∧
      (after (.rateDeparture 33000) (watched 63)).lif = (watched 63).lif := by
  decide +kernel

/-- The positions of the rate watch: counted through a frame and a miss, back to back, and anew at a lock, at the third
miss and at a return (R170, R173, R174). -/
theorem test_rate_watch :
    let missed : State := { watched 63 with lif := { (watched 63).lif with misses := 2 } }
    (after (.frameReceived (frame 1 0)) (watched 63)).lif.span = 64 ∧ (after .missingSync (watched 64)).lif.span = 1 ∧
      (after .missingSync missed).lif.span = 0 ∧
      (after (.holdoverReturn (frame 17 0)) (linked .holdover)).lif.span = 0 ∧
      (after (.measurementComplete 32768) (linked .measure)).lif.span = 0 := by decide +kernel

/-- BEAT and SUBDIVISION at the period of 24,000. -/
theorem test_beats :
    (after .beat { locked with tfu := { Tfu.reset with phase := 24000, group := 11 } }).tfu.group = 0 ∧
      (after .subdivision { locked with tfu := { Tfu.reset with phase := 3000 } }).tfu.sub = 1 := by decide +kernel

/-- GOVERNOR_EVALUATION counts the demand of the LIVE context: 8 + 2 + 12. -/
theorem test_evaluation :
    (after .governorEvaluation { playing with bgv := { Bgv.reset with evaluate := true } }).bgv.demand = 22 := by
  decide +kernel

/-- LOAD_START and LOAD_COMPLETE. -/
theorem test_load :
    ((after .loadStart (changing .cutting (.call 5))).scc.ctx 0 0).state = .loading ∧
      ((after (.loadComplete 0 0) (withCtx { ctxIn .loading false with loadCount := 6 } Fade.rest)).scc.ctx 0 0).state =
        .ready := by decide +kernel

/-- The change to scene 5 with its context READY. -/
def ready (r : Request) : State :=
  { changing .loading r with
    scc := { (changing .loading r).scc with ctxs := setCtx Scc.reset.ctxs 0 0 (ctxIn .ready false) } }

/-- SWITCH of a *Call*: a fade in, the stack, the tempo. -/
theorem test_switch :
    let t := after .switch (ready (.call 5))
    t.scc.fades[0] = ⟨.fadeIn, 64, 0, false⟩ ∧ t.scc.stack = [3, 7, 9] ∧ t.scc.live = some 5 ∧ t.tfu.period = 24000 := by
  decide +kernel

/-- Two switches before one frame, each to a scene of HOLD sections with a tempo: the first lets the pending request start. -/
def twoSwitches : State :=
  let held (tempo : Nat) : Scene := { scene with
    tempo := some tempo, sections := tab fun _ => { scene.sections[(0 : Fin 4)] with mode := .hold } }
  let s := changing .loading (.call 5)
  { s with
    scc := { s.scc with
      scenes := upd s.scc.scenes 6 (some (held 9000)), inFlight := some { change (.call 5) with copy := held 6000 }
      waiting := some (.select 6 false) }
    tfu := { Tfu.reset with resetFlag := true, phase := 500 } }

/-- TEMPO_RESET_TAKEN comes after both (R102): the beat clock starts at the second scene's 90 beats per minute. -/
theorem test_tempo_reset_after_switches :
    (after .tempoResetTaken twoSwitches).scc.live = some 6 ∧ (after .tempoResetTaken twoSwitches).tfu.period = 32000 ∧
      (after .tempoResetTaken twoSwitches).tfu.phase = 0 ∧ (after .tempoResetTaken twoSwitches).tfu.beats = 1 := by
  decide +kernel

/-- DIP_HALFWAY and FADE_END: the outgoing context leaves for SPILLING, or for IDLE without a spilling DELAY. -/
theorem test_fades :
    ((after (.dipHalfway 0) (withCtx (ctxIn .fadingOut true) ⟨.dipCross, 64, 32, false⟩)).scc.ctx 0 0).state = .spilling ∧
      ((after (.fadeEnd 0) (withCtx (ctxIn .live false) ⟨.fadeOut, 64, 64, false⟩)).scc.ctx 0 0) = Ctx.empty := by
  decide +kernel

/-- TAIL_END, SPILL_LIMIT and CUT_COMPLETE. -/
theorem test_tails :
    (after (.tailEnd 0 0) (withCtx { ctxIn .spilling true with quietCount := 4096 } Fade.rest)).dpl.free = List.range 48 ∧
      ((after (.spillLimit 0 0) (withCtx { ctxIn .spilling true with spillCount := 192, spillLimit := 192 }
        Fade.rest)).scc.ctx 0 0).cut = 64 ∧
      ((after (.cutComplete 0 0) (withCtx (ctxIn .cutting true) Fade.rest)).scc.ctx 0 0).state = .idle := by decide +kernel

/-- PENDING_REQUEST_START of a *Return* with an empty stack. -/
theorem test_pending_request :
    (after .pendingRequestStart { locked with scc := { Scc.reset with waiting := some .ret } }).scc.last =
      some ⟨.empty, .ret, none⟩ := by decide +kernel

/-- A slot whose ramp from FILL to DIRECT has reached 64. -/
def ramping : State :=
  { locked with ort := { Ort.reset with owners := upd Ort.reset.owners 3 ⟨.direct 4, some .fill, 64⟩ } }

/-- RAMP_END. -/
theorem test_ramp_end : (after (.rampEnd 3) ramping).ort.owners[3] = ⟨.direct 4, none, 0⟩ := by decide +kernel

/-- A measuring channel with a silence count of 9,600, in READY. -/
def silent : State :=
  { locked with tun := { Tun.reset with
      channels := upd Tun.reset.channels 1
        { mode := .always, muteOnEngage := true, state := .ready
          measure := { Measure.empty with silence := 9600, rising := [256] }, reading := Reading.zero } } }

/-- TUNER_SILENCE. -/
theorem test_tuner_silence :
    (after (.tunerSilence 1) silent).tun.channels[1].state = .noSignal ∧
      (after (.tunerSilence 1) silent).lct.notices = 0x08 := by decide +kernel

/-- Two channels that fall silent at one sample set TUNER once: one notice lists it (R129, R192). -/
theorem test_two_silences_one_notice :
    let both : State := { silent with tun := { silent.tun with
      channels := upd silent.tun.channels 2 silent.tun.channels[1] } }
    (after .notice (after (.tunerSilence 2) (after (.tunerSilence 1) both))).lct.queue =
        [parcelWords noticeKind 0 [0x0008]] ∧
      (after .notice (after (.tunerSilence 2) (after (.tunerSilence 1) both))).lct.notices = 0 := by decide +kernel

/-- MS_TICK: the press of Table 5-4 at tick 1007, with its action deferred, and fired without a hold action. -/
theorem test_tick_press :
    (after (.msTick 0xFB) (withLine (pressed (.call 3)))).tfu.log = [⟨2, .press, 1007⟩] ∧
      (after (.msTick 0xFB) (withLine (pressed (.call 3)))).tfu.lines[2].deferred = true ∧
      (after (.msTick 0xFB) (withLine (pressed .none))).ort.panic = true := by decide +kernel

/-- MS_TICK: a release fires the deferred press; HOLD: the hold time of 600 ms. -/
theorem test_tick_release_and_hold :
    (after (.msTick 0xFF) (withLine (closedLine .closedTiming 296 4 true))).ort.panic = true ∧
      (after (.hold 2) (after (.msTick 0xFB) (withLine (closedLine .closedTiming 599 0 true)))).tfu.log =
        [⟨2, .hold, 1007⟩] := by decide +kernel

/-- MEASUREMENT_START at the 250th tick, and SUPPLY_READING of Table 8-6 at tick 501. -/
theorem test_supply_measurement :
    (after .measurementStart (after (.msTick 0xFF) { locked with bgv := { Bgv.reset with schedule := 249 } })).bgv.running =
        some ⟨true, false⟩ ∧
      (after (.supplyReading 2262 2250) { locked with bgv := { Bgv.reset with running := some ⟨true, false⟩ } }).bgv.guardState
        = .auto := by decide +kernel

/-- A step takes the front command; an empty queue idles. -/
theorem test_step :
    step (locked.withPending [.enterMeasure, .beat]) = exec .enterMeasure (locked.withPending [.beat]) ∧
      step (locked.withPending []) = .next (locked.withPending []) := ⟨rfl, rfl⟩

/-! ### Witnesses: states and operands that meet the hypotheses of the statements, clause by clause -/

/-- Nothing waits before a parcel of any kind, in SEARCH and in LOCKED: the states and kinds that every statement with the
hypothesis `Clear` or `Admitted` is about. -/
theorem witness_clear : (∀ k ∈ kinds, Clear k State.reset ∧ Admitted k State.reset) ∧
    ∀ k ∈ kinds, Clear k locked ∧ Admitted k locked := by
  unfold Clear Admitted; decide +kernel

/-- Parcels are also clear under show lock, where unguarded kinds are admitted, and guarded ones under a permit. -/
theorem witness_clear_under_show_lock :
    (∀ k ∈ kinds, Clear k lockedShow) ∧ (∀ k ∈ kinds, kindGuarded k = false → Admitted k lockedShow) ∧
      Admitted .writeRoute (after (.permit 1 []) lockedShow) := by
  unfold Clear Admitted; decide +kernel

/-- Lists at their bounds, and a parcel in each place of the hold. -/
def full : State :=
  { locked with
    scc := { Scc.reset with stack := [0, 1, 2, 3, 4, 127] }
    tfu := { Tfu.reset with taps := [12000, 12001, 95999, 96000], log := List.replicate 16 ⟨7, .release, 0xFFFF⟩ }
    lct := { Lct.reset with hold := [⟨40, 1, []⟩, ⟨40, 2, []⟩], queue := [List.replicate 256 0] } }

/-- StepKeepsTheBounds, StepKeepsTheQueueWithin256Words: lists and queue at their bounds. -/
theorem witness_bounds : Bounded full ∧ QueueOk full ∧ ∃ t, step (full.withPending [.identify 3 []]) = .next t := by
  unfold Bounded QueueOk; exact ⟨by decide +kernel, by decide +kernel, _, rfl⟩

/-- StepKeepsThePoolSamplesCanonical: samples at both ends of the pool. -/
theorem witness_pool_samples : MemoryOk { playing with dpl := ⟨[], [(0, -1), (196607, 8388607)]⟩ } := by
  unfold MemoryOk; decide +kernel

/-- StepKeepsEveryBlockExactlyOnce: a context that holds block 0. -/
theorem witness_blocks : PoolOk State.reset ∧ PoolOk playing := by unfold PoolOk IdleEmpty; decide +kernel

/-- StepKeepsThePeriodInRange: the ends of the range at 48 kHz. -/
theorem witness_period :
    TempoOk { locked with tfu := { Tfu.reset with period := 12000 } } ∧
      TempoOk { locked with tfu := { Tfu.reset with period := 96000 } } := by unfold TempoOk; decide +kernel

/-- ParcelWordsReadBack: the shortest and the longest body, and an unknown kind. -/
theorem witness_parcel_words :
    (Instr.permit 5 []).wf = true ∧ (Instr.writeStages 5 (List.replicate 63 1)).wf = true ∧
      (Instr.unknownKind 63 5 []).wf = true ∧ (Instr.unknownKind 63 5 []).laneWords.isSome = true := by decide +kernel

/-- StageRecordsReadBack: records at the ends of their ranges. -/
theorem witness_stage_records :
    (StageParams.delay ⟨131072, .sync, 1, .sixteenth, 31130, 32767, true, 4095⟩).inRange ∧
      (StageParams.filter (-8388608) 8388607 0 1 (-1)).inRange := by
  unfold StageParams.inRange DelayParams.inRange IsSample; decide

/-- CheckByteShowsEverySingleBit: strings that differ in their first and in their last bit. -/
theorem witness_single_bits :
    let zeros := List.replicate 280 false
    (∀ j < 280, ((zeros.set 0 true).getD j false ≠ zeros.getD j false) ↔ j = 0) ∧
      ∀ j < 280, ((zeros.set 279 true).getD j false ≠ zeros.getD j false) ↔ j = 279 := by decide +kernel

/-- WorkedWordsOfTheManual, MixingStaysBetweenTheSamples: the ends of the sample range. -/
theorem witness_samples : IsSample 8388607 ∧ IsSample (-8388608) := by unfold IsSample; decide

/-- CommonChecksComeInTheirOrder: unknown kinds at the ends, and lengths just outside those accepted. -/
theorem witness_common_checks :
    unknownCode 0 = true ∧ unknownCode 42 = true ∧ unknownCode 63 = true ∧ unknownCode 1 = false ∧
      unknownCode 41 = false ∧ kindAccepts .permit 1 = false ∧ kindAccepts .writeCurvePoints 2 = false ∧
      kindAccepts .writeCurvePoints 51 = false ∧ kindAccepts .writeStages 54 = false ∧
      kindAccepts .writeRoute 5 = true ∧ lockedShow.lct.showLocked = true ∧ lockedShow.lct.permit = false := by
  decide +kernel

/-- BadIndicesAreRefused: the first index that is refused, and the last. -/
theorem witness_bad_indices :
    kindAccepts .eraseScene 1 = true ∧ 128 ≤ (([128] : List Word).getD 0 0).toNat ∧
      128 ≤ (([0xFFFF] : List Word).getD 0 0).toNat := by decide

/-- OverlongRunsAndAbsentScenesAreRefused: runs that end just beyond the last point, tap and position. -/
theorem witness_overlong_runs :
    kindAccepts .writeCurvePoints 3 = true ∧ 257 < (([0, 257, 1] : List Word).getD 1 0).toNat + (3 - 2) ∧
      kindAccepts .writeCabTaps 4 = true ∧ 128 < (([0, 127, 1, 1] : List Word).getD 1 0).toNat + (4 - 2) ∧
      257 < (([0, 256, 2] : List Word).getD 1 0).toNat + max 1 (min 48 (([0, 256, 2] : List Word).getD 2 0).toNat) ∧
      kindAccepts .writeStages 23 = true ∧ 12 < (11 + (23 - 3) / 10) ∧ stored.scc.scenes[6] = none := by decide +kernel

/-- WaitingParcelsJoinTheHoldOrAreDiscarded: a full queue with an empty hold, and a full hold. -/
theorem witness_waiting :
    (let s : State := { full with lct := { full.lct with hold := [] } };
      quiet s = true ∧ 256 < queueLength s.lct.queue + kindLargest .permit ∧ s.lct.hold.length < 2) ∧
    quiet full = true ∧ full.lct.hold ≠ [] ∧ 2 ≤ full.lct.hold.length := by decide +kernel

/-- CompleteParcelsAreCheckedAndNoticesQueued. -/
theorem witness_complete_parcels :
    let s : State := { locked with lct := { Lct.reset with arrived := some [0xC7C0, 5, 0x383B] } };
    (Instr.permit 5 []).wf = true ∧ (Instr.permit 5 []).laneWords = s.lct.arrived ∧
      quiet { s with lct := { s.lct with arrived := none } } = true ∧ wordSum [0xC7C0, 5, 0x383C] ≠ 0 ∧
      (let u : State := { locked with lct := { Lct.reset with notices := 1 } };
        u.lct.queue = [] ∧ u.lct.notices &&& u.lct.mask ≠ 0) := by decide +kernel

/-- ReadMailboxesAnswersAndClearsTheRun has no hypothesis but `Clear`; RestartReturnsRunningStateToItsStart: a LIVE
context in LOCKED and one in SEARCH, and a change in flight with a pending request. -/
theorem witness_restart :
    (∀ s ∈ [playing, { playing with lif := lifIn .search },
        { changing .cutting (.call 5) with
          scc := { (changing .cutting (.call 5)).scc with
            inFlight := some { change (.call 5) with copy := greedy }, waiting := some .ret } }],
      Clear .restart s ∧ Admitted .restart s) ∧ PoolOk playing := by
  unfold Clear Admitted PoolOk IdleEmpty; decide +kernel

/-- ShowLockOffNeedsAPermitWhileLocked: unlocked, locked with a permit, and locked without one. -/
theorem witness_show_lock_off :
    Clear .showLockOff locked ∧ locked.lct.showLocked = false ∧
      (let s := after (.permit 1 []) lockedShow;
        (s.lct.showLocked = true ∧ s.lct.permit = true ∧ Clear .showLockOff s)) ∧
      Clear .showLockOff lockedShow ∧ lockedShow.lct.showLocked = true ∧ lockedShow.lct.permit = false := by
  unfold Clear; decide +kernel

/-- ShowLockProtectsTheTables. -/
theorem witness_show_lock :
    lockedShow.lct.showLocked = true ∧ lockedShow.lct.permit = false ∧ lockedShow.lct.hold = [] ∧
      lockedShow.lct.arrived = none ∧ Instr.restart 1 [] ≠ .powerOn := by decide +kernel

/-- LiveEditsReachTheLiveContext: no LIVE context, the first index beyond the stages, the last stage, an edit and none. -/
theorem witness_live_edits :
    Clear .setLiveParameter playing ∧ Clear .setStageBypass playing ∧ playing.lif.state.processing = true ∧
      liveCtx playing.scc.ctxs[(1 : Fin 4)] = none ∧ liveCtx playing.scc.ctxs[(0 : Fin 4)] = some 0 ∧
      (playing.scc.ctx 0 0).stages.length = 2 ∧ (playing.scc.ctx 0 0).stages[1]?.isSome = true ∧
      (editParam (.trim 0) 0 5).isSome = true ∧ editParam (.trim 0) 1 5 = none := by
  unfold Clear; decide +kernel

/-- LiveEditsClampToTheRangeOfTheParameter: an edit of a record in range. -/
theorem witness_clamped_edits :
    (StageParams.delay (echo true)).inRange ∧ (editParam (.delay (echo true)) 7 0).isSome = true ∧
      (editParam (.delay (echo true)) 4 31131).isSome = true ∧ IsSample (-8388608) := by
  unfold StageParams.inRange DelayParams.inRange IsSample; decide +kernel

/-- TrimMultipliesByItsGain and BypassedAndShedStagesPassTheirInput: gains 0 and 4,096, a bypassed, a shed and a computing
stage, and a GATE in each state at its thresholds. -/
theorem witness_trim :
    (recordOf [0, 0xFFFF, 0, 0, 0, 0, 0, 0, 0, 0]).params = .trim 32767 ∧ (stageOf (.trim 4096) []).computes = true ∧
      (stageOf (.trim 0) []).computes = true ∧ ((stageOf (.trim 0) []).setBypass true).record.bypass = true ∧
      (stageOf (.trim 0) []).setShed.shed = true ∧ (stageOf (.trim 0) []).shed = false ∧
      ∀ state ∈ [GateState.closed, .opened, .held], ∀ e ∈ [59999, 60000, 99999, 100000],
        let g : GateProc := ⟨0, state, 1, 128⟩;
        (gateStep 100000 60000 0 g e).1.envelope = e := by decide +kernel

/-- MixingStaysBetweenTheSamples: a bypassed chain; the ends of the halves of a dip; a chain with a LIVE context that a dip
holds and one with none that runs; the shortest fade. -/
theorem witness_mixing :
    (upd (Vector.replicate 4 false) 3 true)[(3 : Fin 4)] = true ∧ (Vector.replicate 4 false)[(3 : Fin 4)] = false ∧
      (∀ k ∈ [31, 32, 63], k < 64) ∧ 64 = 2 ^ 6 ∧ (ctxIn .live false).held ⟨.dipIn, 64, 31, false⟩ = true ∧
      (ctxIn .live false).held ⟨.dipIn, 64, 32, false⟩ = false ∧ (ctxIn .ready false).state.running = false := by
  decide +kernel

/-- StageRecordsReadBack, FootswitchParcelsSetLinesAndDrainTheLog: every kind code of a record, and the codes of an action
with a value above the highest. -/
theorem witness_codes :
    (∀ k ∈ [0, 1, 2, 3, 4, 5, 6, 7], (word (0xFFC0 + k)).toNat % 8 = k) ∧
      (∀ k ∈ [0, 1, 2, 3, 4, 5, 6, 7, 65535], (word k).toNat = k) := by decide

/-- DelayLinesReturnTheirInputAfterTheReadLength: a line of one block, with the write position at its end; and read lengths
just below, at and above the target of a SYNC division, which the capacity clamps. -/
theorem witness_delay :
    let p : DelayParams := { echo false with maxLength := 4096, fixedLength := 4096 };
    let st : Stage := { stageOf (.delay p) [47] with proc := { Proc.zero with line := ⟨0, 4095, some 4096⟩ } };
    p.mode = .fixed ∧ p.fixedLength = 4096 ∧ 4096 ≤ p.maxLength ∧ 4096 ≤ 4096 * st.blocks.length ∧ st.blocks.Nodup ∧
      st.proc.line.fill = 0 ∧ st.proc.line.writePos < 4096 * st.blocks.length ∧
      st.proc.line.readLength = some 4096 ∧ Memory.wf [(0, 1)] = true ∧
      targetLength { p with mode := .sync, division := .quarter } st.blocks 24000 = 4096 ∧
      glide 4095 4096 = 4096 ∧ glide 4096 4096 = 4096 ∧ glide 5000 4096 = 4998 ∧ glide 1 4096 = 3 := by decide +kernel

/-- WritingTheStoreFillsTheShadowAndCommits, ReadingTheStoreAnswersTheLiveCopy: the longest run that commits, the shortest
that does not. -/
theorem witness_store :
    (List.replicate 48 (1 : Word)).length = 48 ∧ 209 + 48 = 257 ∧ 80 + 48 = 128 ∧ 0 + 1 ≤ 128 := by decide

/-- HeadersAndErasuresSetTheSlot, SectionsAndStagesAreStored, ReadsOfScenesAndStatusChangeNothing: a present slot and an
absent one, and runs of one and of five records. -/
theorem witness_scenes :
    stored.scc.scenes[(5 : Fin 128)] = some scene ∧ stored.scc.scenes[(127 : Fin 128)] = none ∧
      (∀ k ∈ [Kind.writeSceneHeader, .eraseScene, .writeSection, .writeStages, .readScene],
        Clear k stored ∧ Admitted k stored) ∧
      (List.replicate 10 (0 : Word)).length = 10 * 1 ∧ 11 + 1 ≤ 12 ∧ (List.replicate 50 (0 : Word)).length = 10 * 5 ∧
      7 + 5 ≤ 12 := by
  unfold Clear Admitted; decide +kernel

/-- RequestsThatCannotStart: SCC busy with the slot empty and full, the stack empty, targets absent and live, a trial that
does not fit and a need that the pool does not cover. -/
theorem witness_requests :
    (let s := changing .fading (.call 5);
      s.scc.change ≠ .idle ∧ s.scc.waiting = none ∧ Clear .select s ∧ Clear .call s ∧ Clear .ret s) ∧
    (let s : State := { changing .fading (.call 5) with
      scc := { (changing .fading (.call 5)).scc with fades := upd Scc.reset.fades 0 ⟨.fadeIn, 64, 3, false⟩
                                                     waiting := some .ret } };
      s.scc.waiting = some .ret ∧ Clear .select s) ∧
    stored.scc.change = .idle ∧ stored.scc.stack = [] ∧ Clear .ret stored ∧ stored.scc.scenes[(6 : Fin 128)] = none ∧
    (let s : State := { stored with scc := { stored.scc with live := some 5, stack := [6] } };
      Clear .select s ∧ Clear .call s ∧ Clear .ret s ∧ s.scc.live = some 5 ∧ s.scc.scenes[(5 : Fin 128)] ≠ none ∧
        s.scc.stack = 6 :: [] ∧ s.scc.scenes[(6 : Fin 128)] = none) ∧
    (∀ t ∈ [costly, greedy],
      let s : State := { locked with scc := { Scc.reset with scenes := upd Scc.reset.scenes 5 (some t), stack := [5] } };
      Clear .select s ∧ Clear .call s ∧ Clear .ret s ∧ s.scc.change = .idle ∧ s.scc.live ≠ some 5 ∧
        s.scc.stack.head? = some 5) ∧
    trialFits costly locked = false ∧ trialFits greedy locked = true ∧ availableBlocks locked < greedy.need := by
  unfold Clear; decide +kernel

/-- The part that scene 5 is asked of: with no context in use, or with both contexts of chain 0 SPILLING. -/
def asked (tails : Bool) : State :=
  let tail (block : Nat) : Ctx := { Ctx.empty with
    state := .spilling, spillLimit := 192, stages := [stageOf (.delay (echo true)) [block]] }
  { stored with
    scc := { stored.scc with
      stack := [5]
      ctxs := if tails then setCtx (setCtx Scc.reset.ctxs 0 0 (tail 0)) 0 1 (tail 1) else Scc.reset.ctxs }
    dpl := { free := (List.range 48).drop 2, mem := [] } }

/-- StartedRequestsTakeTheChangeCopy: a *Select* and a *Call* of scene 5, and a *Return* to it, with the standby context
IDLE, and with it SPILLING, so that a cut comes before the load. -/
theorem witness_started_requests : ∀ tails : Bool,
    (asked tails).scc.change = .idle ∧ (asked tails).lif.state.processing = true ∧
      (asked tails).scc.scenes[(5 : Fin 128)] = some scene ∧ trialFits scene (asked tails) = true ∧
      scene.need ≤ availableBlocks (asked tails) ∧ (asked tails).scc.live ≠ some 5 ∧
      (asked tails).scc.stack.head? = some 5 ∧ Clear .select (asked tails) ∧ Clear .call (asked tails) ∧
      Clear .ret (asked tails) := by
  unfold Clear; decide +kernel

/-- LoadsFillTheStandbyContexts: a load that is due, a context that has counted 4 + 2 frames, and pending requests. -/
theorem witness_loads :
    (let s := changing .cutting (.call 5);
      (∀ e ∈ contextEvents, due e s = false) ∧ s.lif.state.processing = true ∧ s.scc.change = .cutting ∧
        s.scc.inFlight = some (change (.call 5)) ∧ loadReady (change (.call 5)) s = true) ∧
    (let s := withCtx { ctxIn .loading false with loadCount := 6 } Fade.rest;
      (s.scc.ctx 0 0).state = .loading ∧ 4 + (s.scc.ctx 0 0).stages.length ≤ (s.scc.ctx 0 0).loadCount) ∧
    (let s (r : Request) : State := { stored with scc := { stored.scc with waiting := some r } };
      (∀ e ∈ contextEvents, due e (s .ret) = false) ∧ (s .ret).scc.change = .idle ∧ (s .ret).scc.stack = [] ∧
        (∀ e ∈ contextEvents, due e (s (.select 5 true)) = false) ∧
        trialFits scene (s (.select 5 true)) = true ∧ scene.need ≤ availableBlocks (s (.select 5 true))) := by
  decide +kernel

/-- The switch of a request with a LIVE context on chain 0 and the READY one beside it. -/
def crossing (r : Request) : State :=
  { ready r with scc := { (ready r).scc with ctxs := setCtx (ready r).scc.ctxs 0 1 (ctxIn .live true) } }

/-- The change with chain 0 in another section mode. -/
def sectioned (mode : SectionMode) (s : State) : State :=
  { s with scc := { s.scc with inFlight := some { change .ret with
      copy := { scene with sections := upd scene.sections 0 { scene.sections[0] with mode := mode } } } } }

/-- TheSwitchFollowsTheTable: every row of the table, each request, with and without a tempo. -/
theorem witness_switch :
    (∀ s ∈ [ready (.call 5), ready .ret, crossing (.select 5 false), sectioned .off (crossing .ret),
        sectioned .hold (crossing .ret), sectioned .off (changing .loading .ret), changing .loading .ret],
      quiet s = true ∧ s.lif.state.processing = true ∧ s.scc.change = .loading ∧ s.scc.inFlight.isSome = true ∧
        ∀ (c : Fin 4) (x : Fin 2), (s.scc.ctx c x).state ≠ .loading) ∧
    ((ready .ret).scc.ctx 0 0).state = .ready ∧ liveCtx (ready .ret).scc.ctxs[(0 : Fin 4)] = none ∧
    liveCtx (crossing .ret).scc.ctxs[(0 : Fin 4)] = some 1 ∧ scene.tempo = some 12000 := by decide +kernel

/-- FadesEndAndTheirOutgoingPartsLeave: each kind at its end, with and without a spill-flagged DELAY. -/
theorem witness_fades :
    (∀ spill ∈ [true, false],
      fadingCtx (withCtx (ctxIn .fadingOut spill) ⟨.cross, 64, 64, false⟩).scc.ctxs[(0 : Fin 4)] = some 0 ∧
      liveCtx (withCtx (ctxIn .live spill) ⟨.fadeOut, 64, 64, false⟩).scc.ctxs[(0 : Fin 4)] = some 0 ∧
      liveCtx (withCtx (ctxIn .live spill) ⟨.dipOut, 64, 32, false⟩).scc.ctxs[(0 : Fin 4)] = some 0 ∧
      fadingCtx (withCtx (ctxIn .fadingOut spill) ⟨.dipCross, 64, 32, false⟩).scc.ctxs[(0 : Fin 4)] = some 0) ∧
    (withCtx (ctxIn .live true) ⟨.fadeIn, 64, 64, false⟩).scc.fades[(0 : Fin 4)] = ⟨.fadeIn, 64, 64, false⟩ ∧
    (withCtx (ctxIn .live true) ⟨.dipIn, 64, 64, true⟩).scc.fades[(0 : Fin 4)].kind = .dipIn ∧
    (withCtx (ctxIn .live true) ⟨.dipIn, 64, 32, false⟩).scc.fades[(0 : Fin 4)].halfTaken = false ∧
    (ctxIn .live true).spills = true ∧ (ctxIn .live false).spills = false := by decide +kernel

/-- TailsEndOrAreCut: quiet counts of 4,096 and 4,095, and a spill count at its limit. -/
theorem witness_tails :
    let tail (quiet spilt : Nat) : State :=
      withCtx { ctxIn .spilling true with quietCount := quiet, spillCount := spilt, spillLimit := 192 } Fade.rest;
    playing.lif.state.processing = true ∧ ((tail 4096 192).scc.ctx 0 0).state = .spilling ∧
      4096 ≤ ((tail 4096 192).scc.ctx 0 0).quietCount ∧ ((tail 4095 192).scc.ctx 0 0).quietCount < 4096 ∧
      ((tail 4095 192).scc.ctx 0 0).spillLimit ≤ ((tail 4095 192).scc.ctx 0 0).spillCount ∧
      ((withCtx (ctxIn .cutting true) Fade.rest).scc.ctx 0 0).cut = 0 := by decide +kernel

/-- TheBeatClockRunsAndResets: the reset in and at the start of a beat, a beat, and the first and last boundaries. -/
theorem witness_beat_clock :
    (∀ phase ∈ [0, 5],
      let s : State := { locked with tfu := { Tfu.reset with resetFlag := true, phase := phase } };
      quiet s = true ∧ s.lif.state.processing = true ∧ s.tfu.resetFlag = true ∧ s.bgv.evaluate = false ∧
        switchDue s = false ∧ s.tfu.phase = phase) ∧
    (24000 ≤ ({ Tfu.reset with phase := 24000 } : Tfu).phase) ∧ 24000 * 1 / 8 ≤ 3000 ∧ 3000 < 24000 * 2 / 8 ∧
    24000 * 7 / 8 ≤ 23999 ∧ 23999 < 24000 := by decide +kernel

/-- TapFollowsTheTable: SEARCH; a first tap; intervals of 96,001, 11,999, 12,000 and 96,000. -/
theorem witness_taps :
    Clear .tap State.reset ∧ State.reset.lif.state.processing = false ∧ Clear .tap locked ∧
      locked.tfu.previousTap = none ∧
      ∀ interval ∈ [96001, 11999, 12000, 96000],
        let s : State := { locked with tfu := { Tfu.reset with frames := interval, previousTap := some 0 } };
        Clear .tap s ∧ s.tfu.previousTap = some 0 ∧ s.tfu.frames - 0 = interval ∧ s.hz = 48000 := by
  unfold Clear; decide +kernel

/-- TicksDebounceLinesAndTakeTransitions: each state of a line, with each level, a tick of the schedule, eight enabled lines
at once with a full log, and holds that are due at the lowest and at the highest line. -/
theorem witness_ticks :
    (∀ l ∈ [Line.reset, pressed (.call 3), pressed .none, { pressed .tap with changes := 3 },
        closedLine .closedTiming 296 4 true, closedLine .closedTiming 296 4 false, closedLine .closedTiming 599 0 true,
        closedLine .closedHeld 600 0 false, closedLine .closedHeld 600 4 false],
      quiet (withLine l) = true) ∧
    quiet { locked with bgv := { Bgv.reset with schedule := 249 } } = true ∧
    quiet { locked with tfu := { Tfu.reset with
      lines := Vector.replicate 8 (pressed .none), log := List.replicate 16 ⟨7, .release, 0xFFFF⟩ } } = true ∧
    ∀ i ∈ ([0, 7] : List (Fin 8)),
      let s : State := { locked with tfu := { Tfu.reset with
        lines := upd Tfu.reset.lines i (closedLine .closedTiming 600 0 true), scan := some i } };
      (∀ e ∈ settleOrder.takeWhile (· ≠ .hold i), due e s = false) ∧ s.tfu.scan = some i ∧ HoldTimeReached i s := by
  unfold HoldTimeReached; decide +kernel

/-- TunerParcelsSetRecordFlagAndReference: a channel that starts, one that goes on, one that leaves READY, and one that
falls silent. -/
theorem witness_tuner :
    locked.tun.channels[(1 : Fin 4)].state = .off ∧ measures .always locked.tun.engaged = true ∧
      measures .engaged locked.tun.engaged = false ∧
      (let k : Channel := { silent.tun.channels[1] with measure := Measure.empty };
        let s : State := { silent with tun := { silent.tun with channels := upd silent.tun.channels 1 k } };
        Clear .writeTunerChannel s ∧ Admitted .writeTunerChannel s ∧ Clear .setTunerEngage s ∧
          Clear .setTunerReference s ∧ s.tun.channels[(1 : Fin 4)].state = .ready) ∧
      measures silent.tun.channels[(1 : Fin 4)].mode silent.tun.engaged = true ∧
      silent.tun.channels[(1 : Fin 4)].measure.silence = 9600 ∧ silent.tun.channels[(1 : Fin 4)].state = .ready ∧
      silent.lct.notices.getLsbD 3 = false ∧ (after (.tunerSilence 1) silent).lct.notices.getLsbD 3 = true := by
  unfold Clear Admitted; decide +kernel

/-- ReadingsNameTheNearestNote: 1,500 Hz and 20 Hz at 48 kHz, with the references at their ends; the crossings of 6.3; the
window of Table 6-2 at its last crossing, which is good, and the same with an unstable span. -/
theorem witness_readings :
    20 * 8192 ≤ 256 * 48000 ∧ 256 * 48000 ≤ 1500 * 8192 ∧ 20 * 614400 ≤ 256 * 48000 ∧ 256 * 48000 ≤ 1500 * 614400 ∧
      (let m : Measure := { Measure.empty with previous := some (-300000), index := 1001, armRising := true };
        risingCrossing m 500000 = true ∧ (m.cross 500000).rising = [256096]) ∧
      (∀ oldest ∈ [1074600, 0],
        let m : Measure := ⟨some 2000, 8849, false, true, 1000000 :: List.replicate 7 1500000 ++ [2195008],
          oldest :: List.replicate 7 1500000, 300⟩;
        let k : Channel := ⟨.always, false, .settling, m, Reading.zero⟩;
        (sampleStep 48000 4400 k (-1000)).window = true ∧
          ((sampleStep 48000 4400 k (-1000)).channel.state = .ready ↔ oldest = 1074600)) := by
  decide +kernel

/-- OwnersFollowThePrecedenceAndRamp: a route with a primary, and a ramp that has reached 64. -/
theorem witness_owners :
    ramping.ort.owners[(3 : Fin 8)].outgoing ≠ none ∧ 64 ≤ ramping.ort.owners[(3 : Fin 8)].k ∧
      (Route.mk (some (3, .right)) none 65535 false true).primary = some (3, .right) := by decide +kernel

/-- EvaluationsFitTheBudget: the running set of Table 8-4 under the guard, whose requested state does not fit, a state
whose requested state fits, and a change in CUTTING that waits for the tail of a chain that the evaluation bypasses. -/
theorem witness_evaluation :
    (let s : State := { locked with
        scc := { Scc.reset with ctxs := running.ctxs }
        bgv := { Bgv.reset with evaluate := true, guardState := .auto } };
      quiet s = true ∧ s.lif.state.processing = true ∧ switchDue s = false ∧ s.bgv.evaluate = true ∧
        s.budget < s.runSet.atRequest.demand ∧ loadDue (evaluateMarks s) = false ∧
        ∀ (c : Fin 4) (x : Fin 2), (s.scc.ctx c x).stages.length ≤ 12) ∧
    (let s : State := { playing with bgv := { Bgv.reset with evaluate := true } };
      quiet s = true ∧ s.runSet.atRequest.demand ≤ s.budget ∧ (s.scc.ctx 0 0).state = .live) ∧
    (let cab : Stage := stageOf (.cab 0 128) [];
      let live : Ctx := { Ctx.empty with state := .live, stages := List.replicate 12 cab };
      let s : State := { stored with
        scc := { stored.scc with
          change := .cutting
          inFlight := some { change (.call 5) with
            copy := { scene with sections := upd (upd scene.sections 0 SceneSection.fresh) 3 scene.sections[0] }
            standby := Vector.replicate 4 1 }
          ctxs := setCtx (setCtx (setCtx (setCtx (setCtx Scc.reset.ctxs 0 0 live) 1 0 live) 2 0 live) 3 0 live) 3 1
            { ctxIn .cutting true with cut := 64 } }
        dpl := { free := (List.range 48).drop 1, mem := [] }
        bgv := { Bgv.reset with evaluate := true } };
      quiet s = true ∧ s.lif.state.processing = true ∧ switchDue s = false ∧ loadDue (evaluateMarks s) = true) := by
  decide +kernel

/-- ForceParcelsMoveTheGuard, SupplyMeasurementMovesTheGuard: each guard state, readings at the thresholds, and each state
of the measurement. -/
theorem witness_guard :
    (∀ g ∈ [GuardState.normal, .auto, .forced], ∀ reading ∈ [none, some 454, some 455],
      let s : State := { locked with bgv := { Bgv.reset with guardState := g, reading := reading } };
      Clear .forceGuardOn s ∧ Clear .forceGuardOff s ∧ s.bgv.guardState = g) ∧
    Clear .supplyCheck locked ∧ locked.bgv.running = none ∧ locked.bgv.starting = none ∧
    (∀ recovery ∈ [0, 1],
      let s : State := { locked with bgv := { Bgv.reset with
        guardState := .auto, recovery := recovery, running := some ⟨true, false⟩ } };
      Clear .supplyCheck s ∧ quiet s = true ∧ s.bgv.running = some ⟨true, false⟩) ∧
    (let s : State := { locked with bgv := { Bgv.reset with starting := some ⟨true, true⟩ } };
      s.bgv.starting ≠ none ∧ s.bgv.running = none) ∧
    readingValue 2272 2272 = 454 ∧ readingValue 2273 2272 = 455 ∧ readingValue 2347 2347 = 469 ∧
    readingValue 2348 2347 = 470 := by
  unfold Clear; decide +kernel

/-- MeasurementsLockOrAreUnsupported: counts at the ends of the window of 44.1 kHz, just outside it, and the states. -/
theorem witness_measurements :
    quiet (linked .measure) = true ∧ (linked .measure).lif.state = .measure ∧ quiet State.reset = true ∧
      State.reset.lif.state = .search ∧
      (∀ count ∈ [35489, 35845], 199 * 44100 * count ≤ 314572800000 ∧ 314572800000 ≤ 201 * 44100 * count) ∧
      (∀ count ∈ [35488, 35846], ∀ r ∈ [44100, 48000, 88200, 96000],
        199 * r * count ≤ 314572800000 → 201 * r * count < 314572800000) := by decide +kernel

/-- LockedFramesAreProcessedOrConcealed: expected numbers none, met and missed; the assembler outside and inside; lane
words idle, lead and noise; a held parcel that executes as the word of a full queue leaves; a frame before which a switch, an
evaluation and a tempo reset are due; and each of these, and a pending request, due for its own row. -/
theorem witness_locked_frames :
    (∀ expected ∈ [none, some 200, some 7], ∀ assembler ∈ [Assembler.outside, .inside [0xC7C0] 2, .inside [0xC7C0] 1],
      let s : State := { locked with
        lif := { lifIn .locked with expected := expected, misses := 1 }
        lct := { Lct.reset with assembler := assembler } };
      quiet s = true ∧ s.lif.state = .locked ∧ Still (laneOut s).2 ∧ s.lif.misses < 2) ∧
    (let s : State := { locked with lct := { Lct.reset with
        hold := [⟨Kind.code .permit, 9, []⟩], queue := [List.replicate 252 1] } };
      quiet s = true ∧ Still (laneOut s).2 ∧ s.lct.permit = false ∧ (laneOut s).2.lct.permit = true ∧
        (laneOut s).2.lct.hold = [] ∧ queueLength (laneOut s).2.lct.queue = 256) ∧
    (let s : State := { ready (.call 5) with
        bgv := { Bgv.reset with evaluate := true }, tfu := { Tfu.reset with resetFlag := true } };
      let u := (laneOut s).2;
      quiet s = true ∧ s.lif.state = .locked ∧ switchDue s = true ∧ switchDue u = true ∧ u.bgv.evaluate = true ∧
        u.tfu.resetFlag = true) ∧
    (let s : State := { locked with
        bgv := { Bgv.reset with evaluate := true }, tfu := { Tfu.reset with resetFlag := true } };
      quiet s = true ∧ switchDue s = false ∧ s.bgv.evaluate = true ∧ s.tfu.resetFlag = true) ∧
    (let s : State := { locked with scc := { Scc.reset with waiting := some .ret } };
      s.lif.state.processing = true ∧ (∀ e ∈ contextEvents, due e s = false) ∧ pendingStartDue s = true) ∧
    frameGood (frame 200 0) = true ∧ frameGood (badFrame 200 0) = false ∧ isLead 0xC7C0 = true ∧ isLead 0xD000 = false := by
  unfold Still; decide +kernel

/-- HoldoverRunsOnSilenceAndReturns: two misses, the first and the 31st period, and the return; with the notice of LINK
leaving in the same frame. -/
theorem witness_holdover :
    (let s : State := { locked with lif := { lifIn .locked with misses := 2 } };
      let v : State := { s with
        lif := { s.lif with state := .holdover, expected := none, held := silence, misses := 0, periods := 1 }
        lct := { s.lct with notices := s.lct.notices ||| 0x01, assembler := .outside } };
      quiet s = true ∧ s.lif.state = .locked ∧ 2 ≤ s.lif.misses ∧ Still (laneOut v).2 ∧ (laneOut v).1 = 0xCFC1) ∧
    ∀ n ∈ [1, 31], ∀ state ∈ [LinkState.holdover, .locked],
      let s : State := { locked with lif := { lifIn .holdover with periods := n } };
      let v : State := { s with lif := { lifIn state with periods := if state = .locked then 0 else n + 1 } };
      quiet s = true ∧ s.lif.state = .holdover ∧ Still (laneOut v).2 := by
  unfold Still; decide +kernel

/-- SearchIsEnteredWithEveryResponse: counts at and just outside the window of 48 kHz, the 32nd period, and MEASURE. -/
theorem witness_search :
    (∀ n ∈ [63, 64], let s : State := watched n;
      quiet s = true ∧ s.lif.state = .locked ∧ s.lif.rate = some .r48000 ∧ s.lif.span = n) ∧
      (∀ count ∈ [32605, 32932],
        199 * Rate.hz .r48000 * count ≤ 314572800000 ∧ 314572800000 ≤ 201 * Rate.hz .r48000 * count) ∧
      201 * Rate.hz .r48000 * 32604 < 314572800000 ∧ 314572800000 < 199 * Rate.hz .r48000 * 32933 ∧
      (let s : State := { locked with lif := { lifIn .holdover with periods := 32 } };
        (∀ e ∈ settleOrder.takeWhile (· ≠ .holdoverExpiry), due e s = false) ∧ s.lif.state = .holdover ∧
          32 ≤ s.lif.periods) ∧
      quiet (linked .measure) = true ∧ (linked .measure).lif.state = .measure := by decide +kernel

end Sys2Proof.Tests
end

namespace Sys2Proof.Machine

set_option Elab.async false

/-! ### Invariants of the step, said once

What a step can do to the state a run is bounded by: `StepInvariant` lists the elementary changes, and every command keeps
a predicate that these changes keep. -/

/-- The two states agree in everything that the invariants of the step speak of. -/
structure SameCore (s t : State) : Prop where
  ctxs : t.scc.ctxs = s.scc.ctxs := by rfl
  stack : t.scc.stack = s.scc.stack := by rfl
  dpl : t.dpl = s.dpl := by rfl
  period : t.tfu.period = s.tfu.period := by rfl
  taps : t.tfu.taps = s.tfu.taps := by rfl
  log : t.tfu.log = s.tfu.log := by rfl
  hold : t.lct.hold = s.lct.hold := by rfl
  queue : t.lct.queue = s.lct.queue := by rfl
  rate : t.lif.rate = s.lif.rate := by rfl
  pending : t.pending = s.pending := by rfl

/-- A context that has as many stages and the same blocks as before, and is not newly IDLE. -/
structure SameHold (k m : Ctx) : Prop where
  stages : m.stages.length = k.stages.length
  blocks : m.blocks = k.blocks
  idle : m.state = .idle → k.state = .idle

/-- The state with its running set replaced. -/
def State.withRunSet (s : State) (r : RunSet) : State :=
  { s with
    scc := { s.scc with ctxs := r.ctxs, fades := r.fades }
    dpl := { s.dpl with free := r.free }
    bgv := { s.bgv with bypass := r.bypass } }

/-- The elementary changes of a step, each keeping the predicate. -/
structure StepInvariant (P : State → Prop) : Prop where
  core : ∀ {s t : State}, SameCore s t → P s → P t
  ctxs : ∀ {s : State} (v : Vector (Vector Ctx 2) 4), (∀ (c : Fin 4) (x : Fin 2), SameHold (s.scc.ctx c x) v[c][x]) →
    P s → P { s with scc := { s.scc with ctxs := v } }
  idle : ∀ {s : State} (c : Fin 4) (x : Fin 2), P s → P (idleCtx c x s)
  cut : ∀ {s : State} (c : Fin 4) (x : Fin 2), P s → P (cutCtx c x s)
  spill : ∀ {s : State} (c : Fin 4) (x : Fin 2), P s → P (spillCtx c x s)
  load : ∀ {s : State} (f : InFlight) (c : Fin 4), P s → P (loadChain f s c)
  mem : ∀ {s : State} (m : List (Nat × Int)), (Memory.wf s.dpl.mem = true → Memory.wf m = true) →
    P s → P { s with dpl := { s.dpl with mem := m } }
  stack : ∀ {s : State} (l : List (Fin 128)), (s.scc.stack.length ≤ 6 → l.length ≤ 6) →
    P s → P { s with scc := { s.scc with stack := l } }
  taps : ∀ {s : State} (l : List Nat), l.length ≤ 4 → P s → P { s with tfu := { s.tfu with taps := l } }
  log : ∀ {s : State} (l : List LogEntry), (s.tfu.log.length ≤ 16 → l.length ≤ 16) →
    P s → P { s with tfu := { s.tfu with log := l } }
  hold : ∀ {s : State} (l : List Parcel), (s.lct.hold.length ≤ 2 → l.length ≤ 2) →
    P s → P { s with lct := { s.lct with hold := l } }
  queue : ∀ {s : State} (q : List (List Word)), (QueueOk s → queueLength q ≤ Config.queueWords) →
    P s → P (setQueue q s)
  reply : ∀ {s : State} (p : Parcel), hasRoom p s = true → P (executed p s).state → P (reply p (executed p s))
  period : ∀ {s : State} (n : Nat), P s → P { s with tfu := { s.tfu with period := clampPeriod s.hz n } }
  rate : ∀ {s : State} (r : Rate) (n : Nat), P s → P { s with
    lif := { s.lif with rate := some r }
    tfu := { s.tfu with period := if r.hz = s.hz then s.tfu.period else clampPeriod r.hz n } }
  powerOn : ∀ {s : State}, P s → P { State.reset with pending := s.pending }

namespace StepInvariant

variable {P : State → Prop} (K : StepInvariant P) {s : State}
include K

/-! #### Notices, contexts and evaluations -/

theorem keeps_takeNotice (due : noticeDue s = true) (h : P s) : P (takeNotice s) := by
  have empty : s.lct.queue = [] := by
    have : s.lct.queue.isEmpty = true := by simp_all [noticeDue]
    exact List.isEmpty_iff.mp this
  refine K.core ?_ (K.queue (s := s) [parcelWords noticeKind 0 [classWord (noticeClasses s)]] (fun _ => ?_) h)
  · exact { queue := by simp [empty] }
  · simp [queueLength, Config.queueWords]

theorem keeps_noticeIfDue (h : P s) : P (noticeIfDue s) := by
  unfold noticeIfDue
  split
  · exact K.keeps_takeNotice ‹_› h
  · exact h

theorem keeps_raise (k : NoticeClass) (h : P s) : P (raise k s) := K.core {} (K.keeps_noticeIfDue h)

theorem keeps_raiseIf (p : Bool) (k : NoticeClass) (h : P s) : P (raiseIf p k s) := by
  cases p
  · exact h
  · exact K.keeps_raise k h

theorem keeps_raiseOnceIf (p : Bool) (k : NoticeClass) (h : P s) : P (raiseOnceIf p k s) := K.keeps_raiseIf _ k h

theorem keeps_putCtx (c : Fin 4) (x : Fin 2) (k : Ctx) (e : SameHold (s.scc.ctx c x) k) (h : P s) :
    P (putCtx c x k s) := by
  refine K.ctxs _ (fun d y => ?_) h
  rw [setCtx_get]
  split
  · rename_i hd; obtain ⟨rfl, rfl⟩ := hd; exact e
  · exact ⟨rfl, rfl, id⟩

theorem keeps_leaveFade (c : Fin 4) (x : Fin 2) (h : P s) : P (leaveFade c x s) := by
  unfold leaveFade
  split
  · exact K.spill c x h
  · exact K.idle c x h

end StepInvariant

/-! #### The passes of the governor as elementary changes of the running set -/

/-- A change of a stage that keeps its blocks. -/
def KeepsBlocks (f : Stage → Stage) : Prop := ∀ st : Stage, (f st).blocks = st.blocks

theorem flatMap_blocks_modify (f : Stage → Stage) (hf : KeepsBlocks f) (stages : List Stage) (i : Nat) :
    (stages.modify i f).flatMap Stage.blocks = stages.flatMap Stage.blocks := by
  induction stages generalizing i with
  | nil => cases i <;> rfl
  | cons st rest ih => cases i with
    | zero => simp [hf st]
    | succ i => simp [ih]

theorem flatMap_blocks_map (f : Stage → Stage) (hf : KeepsBlocks f) (stages : List Stage) :
    (stages.map f).flatMap Stage.blocks = stages.flatMap Stage.blocks := by
  simp [List.flatMap_map, hf _]

/-- A context with its stages changed one by one, each keeping its blocks. -/
theorem sameHold_map (k : Ctx) (f : Stage → Stage) (hf : KeepsBlocks f) : SameHold k { k with stages := k.stages.map f } :=
  ⟨by simp, flatMap_blocks_map f hf _, id⟩

theorem sameHold_modify (k : Ctx) (i : Nat) (f : Stage → Stage) (hf : KeepsBlocks f) :
    SameHold k { k with stages := k.stages.modify i f } := ⟨by simp, flatMap_blocks_modify f hf _ i, id⟩

/-- A predicate on running sets that the elementary changes of the five passes keep. -/
structure PassInvariant (Q : RunSet → Prop) : Prop where
  modify : ∀ (r : RunSet) (p : Place) (f : Stage → Stage), KeepsBlocks f → Q r → Q (r.modify f p)
  cut : ∀ (r : RunSet) (c : Fin 4) (x : Fin 2), Q r → Q (r.cut c x)
  fades : ∀ (r : RunSet) (fades : Vector Fade 4), Q r → Q { r with fades := fades }
  bypass : ∀ (r : RunSet) (bypass : Vector Bool 4), Q r → Q { r with bypass := bypass }
  idle : ∀ (r : RunSet) (c : Fin 4) (x : Fin 2), Q r →
    Q { r with ctxs := setCtx r.ctxs c x Ctx.empty, free := freeBlocks r.ctxs[c][x].blocks r.free }

namespace PassInvariant

variable {Q : RunSet → Prop} (K : PassInvariant Q)
include K

theorem keeps_pass1 (budget fuel : Nat) (e : Course) (h : Q e.set) : Q (pass1 budget fuel e).set := by
  induction fuel generalizing e with
  | zero => exact h
  | succ fuel ih =>
    unfold pass1
    split
    · exact h
    · split
      · exact ih _ (K.modify _ _ _ (fun _ => rfl) h)
      · exact h

theorem keeps_pass2 (budget fuel : Nat) (e : Course) (h : Q e.set) : Q (pass2 budget fuel e).set := by
  induction fuel generalizing e with
  | zero => exact h
  | succ fuel ih =>
    unfold pass2
    split
    · exact h
    · split
      · exact ih _ (K.modify _ _ _ (fun _ => rfl) h)
      · exact h

theorem keeps_pass3At (budget : Nat) (e : Course) (cx : Fin 4 × Fin 2) (h : Q e.set) : Q (pass3At budget e cx).set := by
  unfold pass3At
  split
  · exact h
  · split
    · exact K.cut _ _ _ h
    · exact h

theorem keeps_pass4At (budget : Nat) (e : Course) (c : Fin 4) (h : Q e.set) : Q (pass4At budget e c).set := by
  unfold pass4At
  dsimp only
  split
  · exact h
  · split
    · exact K.fades _ _ h
    · split
      · exact K.fades _ _ (K.cut _ _ _ h)
      · exact h

theorem keeps_drop (c : Fin 4) (x : Fin 2) (r : RunSet) (h : Q r) : Q (RunSet.drop c x r) := by
  unfold RunSet.drop
  dsimp only
  split
  · exact h
  · exact K.fades _ _ (K.idle r c x h)

theorem keeps_pass5At (budget : Nat) (e : Course) (c : Fin 4) (h : Q e.set) : Q (pass5At budget e c).set := by
  unfold pass5At
  split
  · exact h
  · exact K.keeps_drop _ _ _ (K.keeps_drop _ _ _ (K.bypass _ _ h))

/-- The five passes keep what their elementary changes keep. -/
theorem keeps_passes (budget : Nat) (r : RunSet) (h : Q r) : Q (passes budget r).set :=
  List.foldlRecOn (motive := fun e => Q e.set) _ _
    (List.foldlRecOn (motive := fun e => Q e.set) _ _
      (List.foldlRecOn (motive := fun e => Q e.set) _ _
        (K.keeps_pass2 budget _ _ (K.keeps_pass1 budget _ _ h))
        fun e he cx _ => K.keeps_pass3At budget e cx he)
      fun e he c _ => K.keeps_pass4At budget e c he)
    fun e he c _ => K.keeps_pass5At budget e c he

end PassInvariant

/-! #### The return stack through a switch -/

@[simp] theorem sceneTempo_scc (scene : Scene) (s : State) : (sceneTempo scene s).scc = s.scc := by
  unfold sceneTempo
  split <;> rfl

@[simp] theorem switchChain_stack (f : InFlight) (s : State) (c : Fin 4) :
    (switchChain f s c).scc.stack = s.scc.stack := by
  unfold switchChain
  dsimp only
  split
  · rfl
  · split <;> rfl
  · split
    · split <;> rfl
    · rfl

@[simp] theorem foldl_switchChain_stack (f : InFlight) (l : List (Fin 4)) (s : State) :
    (l.foldl (switchChain f) s).scc.stack = s.scc.stack :=
  List.foldlRecOn (motive := fun t => t.scc.stack = s.scc.stack) l _ rfl fun t ht c _ => (switchChain_stack f t c).trans ht

/-- A push removes the oldest entry of a full stack, so the stack keeps its bound (R82, R88). -/
theorem stackAfter_length (r : Request) (live : Option (Fin 128)) (stack : List (Fin 128)) (h : stack.length ≤ 6) :
    (stackAfter r live stack).length ≤ 6 := by
  cases r with
  | select _ _ => exact h
  | call _ => cases live with
    | none => exact h
    | some n => simp [stackAfter, pushScene]
  | ret => simp [stackAfter]; omega

namespace StepInvariant

variable {P : State → Prop} (K : StepInvariant P) {s : State}
include K

/-- The passes on the running set of a state. -/
theorem passInvariant (s : State) : PassInvariant fun r => P (s.withRunSet r) where
  modify r p f hf h := K.core {} (K.keeps_putCtx p.chain p.ctx _ (sameHold_modify _ p.stage f hf) h)
  cut r c x h := K.core {} (K.cut c x h)
  fades r fades h := K.core {} h
  bypass r bypass h := K.core {} h
  idle r c x h := K.core {} (K.idle c x h)

theorem keeps_atRequest (h : P s) : P (s.withRunSet s.runSet.atRequest) := by
  refine K.core {} (K.ctxs (s := s) (mapCtxs Ctx.atRequest s.scc.ctxs) (fun c x => ?_) h)
  have e : (mapCtxs Ctx.atRequest s.scc.ctxs)[c][x] = (s.scc.ctx c x).atRequest := by simp [mapCtxs, Scc.ctx]
  rw [e]
  exact sameHold_map _ _ fun _ => rfl

theorem keeps_evaluateMarks (h : P s) : P (evaluateMarks s) :=
  K.keeps_raiseIf _ _ (K.core {} ((K.passInvariant s).keeps_passes s.budget _ (K.keeps_atRequest h)))

theorem keeps_loadChains (f : InFlight) (h : P s) : P (loadChains f s) :=
  K.core {} (List.foldlRecOn chains (loadChain f) h fun _ ht c _ => K.load f c ht)

theorem keeps_markEvaluation (h : P s) : P (markEvaluation s) := K.core {} h

theorem keeps_evaluateNow (h : P s) : P (evaluateNow s) := by
  have marks := K.keeps_evaluateMarks h
  unfold evaluateNow
  dsimp only
  split
  · split
    · have loaded := K.keeps_loadChains ‹InFlight› marks
      split
      · exact loaded
      · split
        · exact K.keeps_markEvaluation loaded
        · exact K.keeps_evaluateMarks loaded
    · exact marks
  · exact marks

theorem keeps_evaluationEvent (h : P s) : P (evaluationEvent s) := by
  unfold evaluationEvent
  split
  · exact K.keeps_markEvaluation h
  · exact K.keeps_evaluateNow h

theorem keeps_evaluationEventIf (p : Bool) (h : P s) : P (evaluationEventIf p s) := by
  cases p
  · exact h
  · exact K.keeps_evaluationEvent h

/-! #### The Scene Controller -/

theorem keeps_loadStart (f : InFlight) (h : P s) : P (loadStart f s) :=
  K.keeps_evaluationEventIf _ (K.keeps_loadChains f h)

theorem keeps_endRequest (o : SceneOutcome) (r : Request) (n : Option (Fin 128)) (h : P s) : P (endRequest o r n s) :=
  K.keeps_raise _ (K.core {} h)

theorem keeps_cutsBeforeLoad (f : InFlight) (h : P s) : P (cutsBeforeLoad f s) := by
  refine List.foldlRecOn _ _ (List.foldlRecOn _ _ h fun t ht c _ => ?_) fun t ht cx _ => ?_
  · unfold cutStandby
    split
    · exact K.cut _ _ ht
    · exact ht
  · unfold cutForNeed
    split
    · exact K.cut _ _ ht
    · exact ht

theorem keeps_loadStartIf (p : Bool) (f : InFlight) (h : P s) : P (if p then loadStart f s else s) := by
  split
  · exact K.keeps_loadStart f h
  · exact h

theorem keeps_beginChange (r : Request) (n : Fin 128) (scene : Scene) (h : P s) : P (beginChange r n scene s) :=
  K.keeps_loadStartIf _ _ (K.keeps_evaluationEventIf _ (K.core {} (K.keeps_cutsBeforeLoad _ (K.core {} h))))

theorem keeps_startRequest (r : Request) (h : P s) : P (startRequest r s).1 := by
  unfold startRequest
  split
  · exact K.keeps_endRequest _ _ _ h
  · split
    · refine K.keeps_endRequest _ _ _ ?_
      cases r with
      | ret => exact K.stack _ (fun b => by simp; omega) h
      | select _ _ => exact h
      | call _ => exact h
    · split
      · exact K.keeps_endRequest _ _ _ h
      · exact K.keeps_beginChange _ _ _ h

theorem keeps_receiveRequest (r : Request) (h : P s) : P (receiveRequest r s).1 := by
  unfold receiveRequest
  split
  · exact K.keeps_startRequest r h
  · split
    · exact K.core {} h
    · exact K.keeps_endRequest _ _ _ (K.core {} h)

theorem keeps_takePendingStart (h : P s) : P (takePendingStart s) := by
  unfold takePendingStart
  split
  · exact K.keeps_startRequest _ (K.core {} h)
  · exact h

theorem keeps_startIfDue (h : P s) : P (startIfDue s) := by
  unfold startIfDue
  split
  · exact K.keeps_takePendingStart h
  · exact h

theorem keeps_requestArrives (r : Request) (h : P s) : P (requestArrives r s).1 :=
  K.keeps_receiveRequest r (K.keeps_startIfDue h)

theorem keeps_takeLoadStart (h : P s) : P (takeLoadStart s) := by
  unfold takeLoadStart
  split
  · exact K.keeps_loadStart _ h
  · exact h

theorem keeps_takeLoadComplete (c : Fin 4) (x : Fin 2) (h : P s) : P (takeLoadComplete c x s) := by
  have blocks : KeepsBlocks (Stage.setLength s.tfu.period) := fun st => by unfold Stage.setLength; split <;> rfl
  have same := sameHold_map (s.scc.ctx c x) _ blocks
  exact K.keeps_evaluationEvent (K.keeps_putCtx c x _ ⟨same.stages, same.blocks, fun e => nomatch e⟩ h)

theorem keeps_applyPeriod (source : TempoSource) (n : Nat) (h : P s) : P (applyPeriod source n s) :=
  K.core {} (K.period n h)

theorem keeps_sceneTempo (scene : Scene) (h : P s) : P (sceneTempo scene s) := by
  unfold sceneTempo
  split
  · exact K.keeps_applyPeriod _ _ h
  · exact h

theorem keeps_switchChain (f : InFlight) (c : Fin 4) (h : P s) : P (switchChain f s c) := by
  unfold switchChain
  dsimp only
  split
  · exact h
  · split
    · exact K.core {} h
    · exact h
  · split
    · have on := K.keeps_putCtx c f.standby[c] { s.scc.ctxs[c][f.standby[c]] with state := .live }
        ⟨rfl, rfl, fun e => nomatch e⟩ h
      split
      · rename_i y hy
        refine K.core {} (K.keeps_putCtx c y { s.scc.ctxs[c][y] with state := .fadingOut } ?_ on)
        rw [ctx_putCtx]
        split
        · rename_i e; obtain ⟨-, rfl⟩ := e; exact ⟨rfl, rfl, fun e => nomatch e⟩
        · exact ⟨rfl, rfl, fun e => nomatch e⟩
      · exact K.core {} on
    · exact h


theorem keeps_returnIfDone (h : P s) : P (returnIfDone s) := by
  unfold returnIfDone
  split
  · exact K.core {} h
  · exact h

theorem keeps_doSwitch (f : InFlight) (h : P s) : P (doSwitch f s) := by
  have moved : P (sceneTempo f.copy (chains.foldl (switchChain f) s)) :=
    K.keeps_sceneTempo _ (List.foldlRecOn chains (switchChain f) h fun _ ht c _ => K.keeps_switchChain f c ht)
  have after := K.stack (stackAfter f.request s.scc.live s.scc.stack)
    (fun b => stackAfter_length _ _ _ (by simpa using b)) moved
  unfold doSwitch
  refine K.keeps_evaluationEventIf _ (K.keeps_endRequest _ _ _ ?_)
  dsimp only
  split
  · exact K.core {} after
  · exact K.core {} after

theorem keeps_takeSwitch (h : P s) : P (takeSwitch s) := by
  unfold takeSwitch
  split
  · exact K.keeps_doSwitch _ h
  · exact h

theorem keeps_endPart (c : Fin 4) (x : Option (Fin 2)) (h : P s) : P (endPart c x s) := by
  cases x with
  | none => exact h
  | some x => exact K.keeps_evaluationEvent (K.keeps_leaveFade c x h)

theorem keeps_takeFadeEnd (c : Fin 4) (h : P s) : P (takeFadeEnd c s) :=
  K.keeps_returnIfDone (K.core {} (K.keeps_endPart c _ h))

theorem keeps_takeDipHalfway (c : Fin 4) (h : P s) : P (takeDipHalfway c s) := by
  have left (out : Option (Fin 2)) : P (match out with
      | some x => leaveFade c x s
      | none => s) := by
    cases out with
    | none => exact h
    | some x => exact K.keeps_leaveFade c x h
  exact K.keeps_evaluationEvent (K.core {} (left _))

end StepInvariant
end Sys2Proof.Machine

namespace Sys2Proof.Machine

set_option Elab.async false

namespace StepInvariant

variable {P : State → Prop} (K : StepInvariant P) {s : State}
include K

/-! #### Link search and Restart -/

theorem keeps_searchCtx (cx : Fin 4 × Fin 2) (h : P s) : P (searchCtx s cx) := by
  unfold searchCtx
  dsimp only
  split
  · exact K.keeps_putCtx _ _ _ (sameHold_map _ _ fun _ => rfl) h
  · exact K.idle _ _ h

theorem keeps_abortInFlight (h : P s) : P (abortInFlight s) := by
  have idled : P (toIdle s) := K.core {} h
  unfold abortInFlight
  split
  · split
    · exact K.keeps_endRequest _ _ _ idled
    · exact idled
  · exact idled

theorem keeps_abortWaiting (h : P s) : P (abortWaiting s) := by
  unfold abortWaiting
  split
  · exact K.keeps_endRequest _ _ _ (K.core {} h)
  · exact h

theorem keeps_withoutFades (h : P s) :
    P { s with scc := { s.scc with fades := Vector.replicate 4 Fade.rest } } := K.core {} h

theorem keeps_writeSceneBox (h : P s) : P (writeSceneBox s) := K.core {} h

theorem keeps_emptyStack (h : P s) : P { s with scc := { s.scc with stack := [], live := none } } :=
  K.core {} (K.stack [] (fun _ => by simp) h)

theorem keeps_searchScc (h : P s) : P (searchScc s) := by
  have aborted := K.keeps_abortWaiting (K.keeps_abortInFlight (K.keeps_withoutFades
    (List.foldlRecOn allCtxs searchCtx h fun _ ht cx _ => K.keeps_searchCtx cx ht)))
  unfold searchScc
  dsimp only
  split
  · exact aborted
  · exact K.keeps_writeSceneBox aborted

theorem keeps_restartScc (h : P s) : P (restartScc s) :=
  K.keeps_evaluationEventIf _ (K.keeps_raise _ (K.keeps_writeSceneBox (K.keeps_emptyStack (K.keeps_abortWaiting
    (K.keeps_abortInFlight (K.keeps_withoutFades
      (List.foldlRecOn allCtxs _ h fun _ ht cx _ => K.idle cx.1 cx.2 ht)))))))

/-! #### Live edits -/

theorem keeps_modifyStage (c : Fin 4) (x : Fin 2) (i : Nat) (f : Stage → Stage) (hf : KeepsBlocks f) (h : P s) :
    P (modifyStage c x i f s) := K.keeps_putCtx c x _ (sameHold_modify _ i f hf) h

theorem keeps_editLive (c : Fin 4) (i n : Nat) (v : Int) (h : P s) : ∀ p ∈ editLive c i n v s, P p.1 := by
  unfold editLive
  split
  · split
    · rintro p ⟨⟩
      exact K.keeps_evaluationEvent (K.keeps_modifyStage _ _ _ _ (fun _ => rfl) h)
    · rintro p ⟨⟩
  · rintro p ⟨⟩

theorem keeps_bypassLive (c : Fin 4) (i : Nat) (f : Bool → Bool) (h : P s) : ∀ p ∈ bypassLive c i f s, P p.1 := by
  unfold bypassLive
  split
  · rintro p ⟨⟩
    exact K.keeps_evaluationEvent (K.keeps_modifyStage _ _ _ _ (fun _ => rfl) h)
  · rintro p ⟨⟩

theorem keeps_stageToggle (c : Fin 4) (i : Nat) (h : P s) : P (stageToggle c i s) := by
  unfold stageToggle
  split
  · rename_i p hp; exact K.keeps_bypassLive c i _ h p hp
  · exact h

/-! #### The beat clock and taps -/

theorem keeps_takeBeat (h : P s) : P (takeBeat s) := K.keeps_raise _ (K.core {} h)

theorem keeps_takeTempoReset (h : P s) : P (takeTempoReset s) := by
  unfold takeTempoReset
  split
  · exact K.core {} h
  · exact K.keeps_raise _ (K.core {} h)

theorem keeps_forgetTaps (h : P s) : P (forgetTaps s) := K.core {} (K.taps [] (by simp) h)

theorem keeps_startTaps (h : P s) : P (startTaps s) := K.core {} (K.taps [] (by simp) h)

theorem keeps_takeTap (h : P s) : P (takeTap s) := by
  unfold takeTap
  split
  · exact h
  · exact K.keeps_startTaps h
  · exact K.keeps_startTaps h
  · refine K.keeps_applyPeriod _ _ (K.core {} (K.taps (joinInterval s.tfu.taps _) ?_ h))
    simp [joinInterval]; omega

/-! #### The tuner and the router -/

theorem keeps_reportChannel (old : State) (c : Fin 4) (h : P s) : P (reportChannel old c s) := by
  unfold reportChannel
  split
  · exact h
  · exact K.core {} h

theorem keeps_reportChannels (old : State) (h : P s) : P (reportChannels old s) :=
  K.keeps_raiseIf _ _ (List.foldlRecOn chains _ h fun _ ht c _ => K.keeps_reportChannel old c ht)

theorem keeps_setEngaged (engaged : Bool) (h : P s) : P (setEngaged engaged s) :=
  K.keeps_reportChannels _ (K.core {} h)

theorem keeps_channelFrame (inputs : Vector Int 4) (c : Fin 4) (h : P s) : P (channelFrame inputs s c) := by
  unfold channelFrame
  dsimp only
  split
  · split
    · exact K.core {} h
    · exact K.core {} h
  · exact h

theorem keeps_tunerFrame (inputs : Vector Int 4) (h : P s) : P (tunerFrame inputs s) :=
  K.keeps_raiseIf _ _ (List.foldlRecOn chains _ h fun _ ht c _ => K.keeps_channelFrame inputs c ht)

theorem keeps_takeSilence (c : Fin 4) (h : P s) : P (takeSilence c s) :=
  K.keeps_raiseOnceIf _ _ (K.keeps_reportChannel s c (K.core {} h))

theorem keeps_searchTuner (h : P s) : P (searchTuner s) := K.keeps_reportChannels _ (K.core {} h)

theorem keeps_restartTuner (h : P s) : P (restartTuner s) := K.keeps_reportChannels _ (K.core {} h)

theorem keeps_routerFrame (inbound : Vector Int 8) (h : P s) : P (routerFrame inbound s) := K.core {} h

/-! #### Footswitches -/

theorem keeps_appendLog (i : Fin 8) (e : LogEvent) (h : P s) : P (appendLog i e s) := by
  unfold appendLog
  dsimp only
  split
  · exact K.keeps_raise _ (K.log _ (fun _ => by simp; omega) h)
  · exact K.keeps_raise _ (K.core {} (K.log (s.tfu.log.drop 1 ++ [{ line := i, event := e, time := s.tfu.tick }])
      (fun b => by simp; omega) h))

theorem keeps_fire (a : Action) (h : P s) : P (fire a s) := by
  cases a with
  | none => exact h
  | select n => exact K.keeps_requestArrives _ h
  | call n => exact K.keeps_requestArrives _ h
  | ret => exact K.keeps_requestArrives _ h
  | tap => exact K.keeps_takeTap h
  | tuner => exact K.keeps_setEngaged _ h
  | panic => exact K.core {} h
  | stageToggle c i => exact K.keeps_stageToggle c i.val h

theorem keeps_takePress (i : Fin 8) (h : P s) : P (takePress i s) := by
  have logged (l : Line) : P (appendLog i .press (putLine i l s)) := K.keeps_appendLog _ _ (K.core {} h)
  unfold takePress
  dsimp only
  split
  · exact K.keeps_fire _ (logged _)
  · exact logged _

theorem keeps_takeRelease (i : Fin 8) (h : P s) : P (takeRelease i s) := by
  have logged (l : Line) : P (appendLog i .release (putLine i l s)) := K.keeps_appendLog _ _ (K.core {} h)
  unfold takeRelease
  dsimp only
  split
  · exact K.keeps_fire _ (logged _)
  · exact logged _

theorem keeps_lineStep (i : Fin 8) (h : P s) : P (lineStep i s) := by
  unfold lineStep
  dsimp only
  split
  · exact h
  · split
    · exact K.keeps_takePress i h
    · exact h
  · split
    · exact K.core {} h
    · exact K.keeps_takeRelease i h
  · split
    · exact h
    · exact K.keeps_takeRelease i h

theorem keeps_scanLines (lines : List (Fin 8)) (h : P s) : P (scanLines lines s) := by
  induction lines generalizing s with
  | nil => exact K.core {} h
  | cons i rest ih =>
    unfold scanLines
    split
    · exact K.core {} (K.keeps_lineStep i h)
    · exact ih (K.keeps_lineStep i h)

theorem keeps_takeHold (i : Fin 8) (h : P s) : P (takeHold i s) :=
  K.keeps_scanLines _ (K.keeps_fire _ (K.keeps_appendLog _ _ (K.core {} h)))

theorem keeps_footswitchTick (pins : BitVec 8) (h : P s) : P (footswitchTick pins s) :=
  K.keeps_scanLines _ (K.core {} h)

/-! #### The supply guard -/

theorem keeps_guardMoved (h : P s) : P (guardMoved s) :=
  K.keeps_evaluationEvent (K.core {} (K.keeps_raise .supply h))

theorem keeps_setGuard (g : GuardState) (force : Bool) (n : Nat) (h : P s) : P (setGuard g force n s) := K.core {} h

theorem keeps_applyReading (n : Nat) (h : P s) : P (applyReading n s) := by
  have read : P { s with bgv := { s.bgv with reading := some n } } := K.core {} h
  unfold applyReading
  dsimp only
  split
  · split
    · exact K.keeps_guardMoved (K.keeps_setGuard _ _ _ read)
    · exact read
  · split
    · split
      · exact K.keeps_setGuard _ _ _ read
      · exact K.keeps_guardMoved (K.keeps_setGuard _ _ _ read)
    · exact K.keeps_setGuard _ _ _ read
  · exact read

theorem keeps_takeReading (cause : MeasureCause) (c1 c2 : Nat) (h : P s) : P (takeReading cause c1 c2 s) :=
  K.keeps_applyReading _ (K.core {} h)

theorem keeps_forceOn (h : P s) : P (forceOn s) := by
  unfold forceOn
  split
  · exact K.keeps_guardMoved (K.core {} h)
  · exact K.core {} h
  · exact K.core {} h

theorem keeps_forceOff (h : P s) : P (forceOff s) := by
  unfold forceOff
  split
  · split
    · split
      · exact K.core {} h
      · exact K.keeps_guardMoved (K.core {} h)
    · exact K.keeps_guardMoved (K.core {} h)
  · exact K.core {} h
  · exact K.core {} h

/-! #### The parcels -/

omit K in
theorem keeps_withIndex (n a : Nat) (f : Fin n → Answer) (h : P s) (hf : ∀ i, P (f i).state) :
    P (withIndex n a s f).state := by
  unfold withIndex
  split
  · exact hf _
  · exact h

theorem keeps_requestAnswer (r : Request) (h : P s) : P (requestAnswer r s).state := by
  unfold requestAnswer
  dsimp only
  split
  · exact K.keeps_requestArrives r h
  · exact K.keeps_requestArrives r h

theorem keeps_effSetLiveParameter (body : List Word) (h : P s) : P (effSetLiveParameter body s).state :=
  keeps_withIndex _ _ _ h fun c => by
    split
    · rename_i p hp; exact K.keeps_editLive c _ _ _ h p hp
    · exact h

theorem keeps_effSetStageBypass (body : List Word) (h : P s) : P (effSetStageBypass body s).state :=
  keeps_withIndex _ _ _ h fun c => by
    split
    · rename_i p hp; exact K.keeps_bypassLive c _ _ h p hp
    · exact h

theorem keeps_effWriteCurvePoints (body : List Word) (h : P s) : P (effWriteCurvePoints body s).state :=
  keeps_withIndex _ _ _ h fun k => keeps_withIndex _ _ _ h fun first => by
    split
    · exact h
    · exact K.core {} h

omit K in
theorem keeps_effReadCurvePoints (body : List Word) (h : P s) : P (effReadCurvePoints body s).state :=
  keeps_withIndex _ _ _ h fun k => keeps_withIndex _ _ _ h fun first => by
    split
    · exact h
    · exact h

theorem keeps_effWriteCabTaps (body : List Word) (h : P s) : P (effWriteCabTaps body s).state :=
  keeps_withIndex _ _ _ h fun k => keeps_withIndex _ _ _ h fun first => by
    split
    · exact h
    · exact K.core {} h

omit K in
theorem keeps_effReadCabTaps (body : List Word) (h : P s) : P (effReadCabTaps body s).state :=
  keeps_withIndex _ _ _ h fun k => keeps_withIndex _ _ _ h fun first => by
    split
    · exact h
    · exact h

theorem keeps_putScene (n : Fin 128) (scene : Option Scene) (h : P s) : P (putScene n scene s) := K.core {} h

theorem keeps_effWriteSection (body : List Word) (h : P s) : P (effWriteSection body s).state :=
  keeps_withIndex _ _ _ h fun n => keeps_withIndex _ _ _ h fun c => by
    split
    · exact h
    · exact K.keeps_putScene _ _ h

theorem keeps_effWriteStages (body : List Word) (h : P s) : P (effWriteStages body s).state :=
  keeps_withIndex _ _ _ h fun n => keeps_withIndex _ _ _ h fun c => keeps_withIndex _ _ _ h fun first => by
    split
    · exact h
    · split
      · exact h
      · exact K.keeps_putScene _ _ h

omit K in
theorem keeps_effReadScene (body : List Word) (h : P s) : P (effReadScene body s).state :=
  keeps_withIndex _ _ _ h fun n => keeps_withIndex _ _ _ h fun c => keeps_withIndex _ _ _ h fun first => by
    split
    · exact h
    · exact h

theorem keeps_effReadMailboxes (body : List Word) (h : P s) : P (effReadMailboxes body s).state :=
  keeps_withIndex _ _ _ h fun first => by
    dsimp only [okWith]
    split
    · exact K.core {} h
    · exact K.core {} h

theorem keeps_effReadCounters (body : List Word) (h : P s) : P (effReadCounters body s).state := by
  unfold effReadCounters okWith
  dsimp only
  split
  · exact K.core {} h
  · exact h

theorem keeps_emptyNotices (h : P s) : P { s with lct := { s.lct with notices := 0 } } := K.core {} h

theorem keeps_emptyLog (h : P s) : P { s with tfu := { s.tfu with log := [] } } := K.log [] (fun _ => by simp) h

theorem keeps_effRestart (h : P s) : P (effRestart s).state := by
  unfold effRestart okWith
  dsimp only
  exact K.keeps_restartTuner (K.keeps_emptyLog (K.keeps_forgetTaps (K.keeps_restartScc (K.keeps_emptyNotices h))))

/-- The effect of every kind at its owning block. -/
theorem keeps_kindEffect (k : Kind) (body : List Word) (h : P s) : P (kindEffect k body s).state := by
  cases k with
  | writeChainInput => exact keeps_withIndex _ _ _ h fun _ => K.core {} h
  | setLiveParameter => exact K.keeps_effSetLiveParameter body h
  | setStageBypass => exact K.keeps_effSetStageBypass body h
  | writeCurvePoints => exact K.keeps_effWriteCurvePoints body h
  | readCurvePoints => exact keeps_effReadCurvePoints body h
  | writeCabTaps => exact K.keeps_effWriteCabTaps body h
  | readCabTaps => exact keeps_effReadCabTaps body h
  | readPool => exact h
  | writeSceneHeader => exact keeps_withIndex _ _ _ h fun _ => K.keeps_putScene _ _ h
  | writeSection => exact K.keeps_effWriteSection body h
  | writeStages => exact K.keeps_effWriteStages body h
  | eraseScene => exact keeps_withIndex _ _ _ h fun _ => K.keeps_putScene _ _ h
  | readScene => exact keeps_effReadScene body h
  | select => exact keeps_withIndex _ _ _ h fun _ => K.keeps_requestAnswer _ h
  | call => exact keeps_withIndex _ _ _ h fun _ => K.keeps_requestAnswer _ h
  | ret => exact K.keeps_requestAnswer _ h
  | readContextStatus => exact h
  | setTempo => exact K.keeps_applyPeriod _ _ h
  | tempoReset => exact K.core {} h
  | tap => exact K.keeps_takeTap h
  | writeFootswitchLine => exact keeps_withIndex _ _ _ h fun _ => K.core {} h
  | readFootswitchLog => exact K.log _ (fun b => by simp; omega) h
  | writeTunerChannel => exact keeps_withIndex _ _ _ h fun _ => K.keeps_reportChannels _ (K.core {} h)
  | setTunerEngage => exact K.keeps_setEngaged _ h
  | setTunerReference => exact K.core {} h
  | writeRoute => exact keeps_withIndex _ _ _ h fun _ => K.core {} h
  | readRoutes => exact h
  | setPanic => exact K.core {} h
  | showLockOn => exact K.core {} h
  | showLockOff => exact K.core {} h
  | permit => exact K.core {} h
  | forceGuardOn => exact K.keeps_forceOn h
  | forceGuardOff => exact K.keeps_forceOff h
  | supplyCheck => exact K.core {} h
  | writeLinkFormat => exact K.core {} h
  | readMailboxes => exact K.keeps_effReadMailboxes body h
  | readNotices => exact K.core {} h
  | writeNoticeMask => exact K.core {} h
  | readCounters => exact K.keeps_effReadCounters body h
  | identify => exact h
  | restart => exact K.keeps_effRestart h

/-! #### The lane -/

theorem keeps_parcelAnswer (p : Parcel) (h : P s) : P (parcelAnswer p s).state := by
  have consumed : P (consumePermit s) := K.core {} h
  unfold parcelAnswer
  split
  · exact consumed
  · split
    · exact consumed
    · split
      · exact consumed
      · exact K.keeps_kindEffect _ _ consumed

/-- The empty place of a reply takes no words of the queue. -/
theorem keeps_executing (h : P s) : P (executing s) :=
  K.core {} (K.queue (s.lct.queue ++ [[]]) (fun b => by simpa [QueueOk, queueLength] using b) h)

/-- A parcel executes where the queue has room for its reply (R183). -/
theorem keeps_executeParcel (p : Parcel) (room : hasRoom p s = true) (h : P s) : P (executeParcel p s) := by
  have short : queueLength s.lct.queue ≤ Config.queueWords := by
    have : queueLength s.lct.queue + p.largestReply ≤ Config.queueWords := by simpa [hasRoom] using room
    omega
  exact K.reply p room (K.queue _ (fun _ => short) (K.keeps_parcelAnswer p (K.keeps_executing h)))

theorem keeps_arriveParcel (p : Parcel) (h : P s) : P (arriveParcel p s) := by
  unfold arriveParcel
  split
  · rename_i room
    exact K.keeps_executeParcel p (by simp_all) h
  · split
    · exact K.hold _ (fun _ => by simp; omega) h
    · exact K.keeps_raise _ (K.core {} h)

theorem keeps_drainHold (fuel : Nat) (h : P s) : P (drainHold fuel s) := by
  induction fuel generalizing s with
  | zero => exact h
  | succ fuel ih =>
    unfold drainHold
    split
    · exact h
    · rename_i p rest hold
      split
      · rename_i room
        exact ih (K.keeps_executeParcel p room (K.hold rest (fun b => by rw [hold] at b; simp at b; omega) h))
      · exact h

theorem keeps_takeLaneWord (h : P s) : P (takeLaneWord s).2 := by
  have shorter (q : List (List Word)) (hq : queueLength q ≤ queueLength s.lct.queue) : P (setQueue q s) :=
    K.queue q (fun b => hq.trans b) h
  unfold takeLaneWord
  split
  · exact h
  all_goals
    rename_i hq
    refine K.core {} (shorter _ ?_)
    rw [hq]
    simp [queueLength]

theorem keeps_dropPartial (h : P s) : P (dropPartial s) := by
  unfold dropPartial
  split
  · refine K.core {} (K.queue (s.lct.queue.drop 1) (fun b => le_trans ?_ b) h)
    cases s.lct.queue <;> simp [queueLength]
  · exact h

theorem keeps_laneOut (h : P s) : P (laneOut s).2 :=
  K.keeps_drainHold 2 (K.keeps_takeLaneWord (K.keeps_noticeIfDue h))

theorem keeps_assembleWord (w : Word) (h : P s) : P (assembleWord w s) := by
  unfold assembleWord
  split
  · split
    · exact h
    · split
      · exact K.core {} h
      · exact K.core {} h
  · split
    · exact K.core {} h
    · exact K.core {} h

theorem keeps_takeParcelComplete (h : P s) : P (takeParcelComplete s) := by
  unfold takeParcelComplete
  split
  · exact h
  · dsimp only
    split
    · exact K.keeps_arriveParcel _ (K.core {} h)
    · exact K.keeps_raise _ (K.core {} h)

end StepInvariant

/-! #### A change of the link record, with LINK and mailbox 7 -/

/-- A notice is queued from what the lane holds, whatever the link record says (R192). -/
theorem noticeIfDue_setLif (f : Lif → Lif) (s : State) : noticeIfDue (setLif f s) = setLif f (noticeIfDue s) := by
  unfold noticeIfDue
  have e : noticeDue (setLif f s) = noticeDue s := rfl
  rw [e]
  split <;> rfl

section
variable (f : Lif → Lif) (s : State)

@[simp] theorem changeLink_lif : (changeLink f s).lif = f s.lif := by simp [changeLink]
@[simp] theorem changeLink_chp : (changeLink f s).chp = s.chp := by simp [changeLink]
@[simp] theorem changeLink_dpl : (changeLink f s).dpl = s.dpl := by simp [changeLink]
@[simp] theorem changeLink_scc : (changeLink f s).scc = s.scc := by simp [changeLink]
@[simp] theorem changeLink_tfu : (changeLink f s).tfu = s.tfu := by simp [changeLink]
@[simp] theorem changeLink_tun : (changeLink f s).tun = s.tun := by simp [changeLink]
@[simp] theorem changeLink_ort : (changeLink f s).ort = s.ort := by simp [changeLink]
@[simp] theorem changeLink_bgv : (changeLink f s).bgv = s.bgv := by simp [changeLink]
@[simp] theorem changeLink_pending : (changeLink f s).pending = s.pending := by simp [changeLink]
@[simp] theorem changeLink_lct : (changeLink f s).lct =
    { (raise .link s).lct with boxes := { (raise .link s).lct.boxes with
      link := Box.write { state := (f s.lif).state, rate := (f s.lif).rate
                          slips := (raise .link s).lct.counters.slips
                          frameChecks := (raise .link s).lct.counters.frameChecks } } } := by
  simp [changeLink, raise, noticeIfDue_setLif, linkRecord]

@[simp] theorem raise_queue (k : NoticeClass) : (raise k s).lct.queue = (noticeIfDue s).lct.queue := rfl
@[simp] theorem raise_hold (k : NoticeClass) : (raise k s).lct.hold = (noticeIfDue s).lct.hold := rfl

end

namespace StepInvariant

variable {P : State → Prop} (K : StepInvariant P) {s : State}
include K

/-! #### The link -/

theorem keeps_changeLink (f : Lif → Lif) (hf : (f s.lif).rate = s.lif.rate) (h : P s) : P (changeLink f s) :=
  K.core {} (K.keeps_raise .link (K.core (t := setLif f s) { rate := hf } h))

theorem keeps_enterSearch (h : P s) : P (enterSearch s) :=
  K.keeps_evaluationEventIf _ (K.core {} (K.keeps_searchTuner (K.keeps_forgetTaps (K.keeps_searchScc
    (K.keeps_dropPartial (K.core (t := abandon (changeLink Lif.toSearch s)) {} (K.keeps_changeLink _ rfl h)))))))

theorem keeps_loseLink (h : P s) : P (loseLink s) := K.keeps_enterSearch (K.core {} h)

/-- A lock at another rate rescales the period, behind LINK (R101). -/
theorem keeps_relock (r : Rate) (count : Nat) (ne : r.hz ≠ s.hz) (h : P s) :
    P (rescale s.hz (changeLink (Lif.lock r count) s)) := by
  have told := K.rate r (roundDivNat (s.tfu.period * r.hz) s.hz) (K.keeps_noticeIfDue h)
  have ne' : r.hz ≠ (s.lif.rate.getD .r48000).hz := ne
  refine K.core ?_ (K.taps [] (by simp) told)
  constructor <;> simp [rescale, applyPeriod, State.hz, Lif.lock, ne']

/-- A lock: the rate changes, and with it, at another rate than the last used, the period (R101, R169). -/
theorem keeps_lockAt (r : Rate) (count : Nat) (h : P s) : P (lockAt r count s) := by
  unfold lockAt
  dsimp only
  split
  · rename_i same
    have same' : r.hz = (s.lif.rate.getD .r48000).hz := same
    refine K.core ?_ (K.rate r 0 (K.keeps_noticeIfDue h))
    constructor <;> simp [State.hz, Lif.lock, same']
  · rename_i ne
    exact K.keeps_evaluationEvent (K.keeps_relock r count ne h)

theorem keeps_measured (count : Nat) (h : P s) : P (measured count s) := by
  unfold measured
  split
  · exact K.keeps_lockAt _ _ h
  · exact K.core {} h

/-! #### What comes before a frame, and the frame -/

theorem keeps_switchIfDue (h : P s) : P (switchIfDue s) := by
  unfold switchIfDue
  split
  · exact K.keeps_takeSwitch h
  · exact h

theorem keeps_evaluateIfDue (h : P s) : P (evaluateIfDue s) := by
  unfold evaluateIfDue
  split
  · exact K.keeps_evaluateNow h
  · exact h

theorem keeps_resetIfDue (h : P s) : P (resetIfDue s) := by
  unfold resetIfDue
  split
  · exact K.keeps_takeTempoReset h
  · exact h

theorem keeps_beforeFrame (h : P s) : P (beforeFrame s) :=
  K.keeps_resetIfDue (K.keeps_evaluateIfDue (K.keeps_switchIfDue (K.keeps_startIfDue (K.keeps_switchIfDue h))))

end StepInvariant

/-- A stage's frame keeps its blocks, whatever it computes. -/
theorem runStage_blocks (env : FrameInputs) (st : Stage) (x : Int) (mem : List (Nat × Int)) :
    (runStage env st x mem).stage.blocks = st.blocks := by
  unfold runStage computeStage
  split
  · split <;> rfl
  · rfl

/-- A stage's frame stores into the pool at most one sample. -/
theorem runStage_wf (env : FrameInputs) (st : Stage) (x : Int) (mem : List (Nat × Int)) (h : Memory.wf mem = true) :
    Memory.wf (runStage env st x mem).mem = true := by
  unfold runStage computeStage
  split
  · split
    case h_7 => exact wf_memWrite _ _ _ h
    all_goals exact h
  · exact h

theorem runList_keeps (env : FrameInputs) (stages : List Stage) (x : Int) (mem : List (Nat × Int)) :
    (runList env stages x mem).1.length = stages.length ∧
      (runList env stages x mem).1.flatMap Stage.blocks = stages.flatMap Stage.blocks ∧
      (Memory.wf mem = true → Memory.wf (runList env stages x mem).2.2 = true) := by
  induction stages generalizing x mem with
  | nil => exact ⟨rfl, rfl, id⟩
  | cons st rest ih =>
    obtain ⟨length, blocks, wf⟩ := ih (runStage env st x mem).out (runStage env st x mem).mem
    refine ⟨?_, ?_, fun h => wf (runStage_wf env st x mem h)⟩
    · simp [runList, length]
    · simp [runList, blocks, runStage_blocks]

theorem runTail_keeps (period : Nat) (stages : List Stage) (mem : List (Nat × Int)) :
    (runTail period stages mem).stages.length = stages.length ∧
      (runTail period stages mem).stages.flatMap Stage.blocks = stages.flatMap Stage.blocks ∧
      (Memory.wf mem = true → Memory.wf (runTail period stages mem).mem = true) := by
  induction stages generalizing mem with
  | nil => exact ⟨rfl, rfl, id⟩
  | cons st rest ih =>
    unfold runTail
    split
    · rename_i p _
      obtain ⟨length, blocks, wf⟩ := ih (tailStep p st period mem).mem
      refine ⟨by simp [length], ?_, fun h => wf (wf_memWrite _ _ _ h)⟩
      have same : (tailStep p st period mem).stage.blocks = st.blocks := rfl
      simp [blocks, same]
    · obtain ⟨length, blocks, wf⟩ := ih mem
      exact ⟨by simp [length], by simp [blocks], wf⟩

/-- A context's frame keeps the number of its stages, its blocks and its state, and the canonical form of the pool. -/
theorem ctxFrame_keeps (env : FrameInputs) (bypassed : Bool) (fade : Fade) (x : Int) (k : Ctx) (mem : List (Nat × Int)) :
    SameHold k (ctxFrame env bypassed fade x k mem).ctx ∧
      (Memory.wf mem = true → Memory.wf (ctxFrame env bypassed fade x k mem).mem = true) := by
  have same : SameHold k k := ⟨rfl, rfl, id⟩
  obtain ⟨fullLength, fullBlocks, fullWf⟩ := runList_keeps env k.stages x mem
  obtain ⟨tailLength, tailBlocks, tailWf⟩ := runTail_keeps env.clock.period k.stages mem
  have full : SameHold k (fullFrame env x k mem).ctx := ⟨fullLength, fullBlocks, id⟩
  have spill : SameHold k (spillFrame env k mem).ctx := ⟨tailLength, tailBlocks, id⟩
  have cut : SameHold k (cutFrame env k mem).ctx := ⟨tailLength, tailBlocks, id⟩
  unfold ctxFrame
  split
  · exact ⟨same, id⟩
  · exact ⟨⟨rfl, rfl, id⟩, id⟩
  · exact ⟨same, id⟩
  all_goals split
  · exact ⟨same, id⟩
  · exact ⟨full, fullWf⟩
  · exact ⟨same, id⟩
  · exact ⟨full, fullWf⟩
  · exact ⟨same, id⟩
  · exact ⟨spill, tailWf⟩
  · exact ⟨same, id⟩
  · exact ⟨cut, tailWf⟩

/-- The frame of the chains keeps every context's stages and blocks, and the canonical form of the pool. -/
def RunKeeps (r t : ChainsRun) : Prop :=
  (∀ (c : Fin 4) (x : Fin 2), SameHold r.ctxs[c][x] t.ctxs[c][x]) ∧ (Memory.wf r.mem = true → Memory.wf t.mem = true)

theorem SameHold.trans {k l m : Ctx} (h : SameHold k l) (g : SameHold l m) : SameHold k m :=
  ⟨g.stages.trans h.stages, g.blocks.trans h.blocks, fun e => h.idle (g.idle e)⟩

theorem chainFrame_keeps (env : FrameInputs) (bypass : Vector Bool 4) (inputs : Vector Int 4) (r : ChainsRun) (c : Fin 4) :
    RunKeeps r (chainFrame env bypass inputs r c) := by
  obtain ⟨first, firstWf⟩ := ctxFrame_keeps env bypass[c] r.fades[c] inputs[c] r.ctxs[c][(0 : Fin 2)] r.mem
  obtain ⟨second, secondWf⟩ := ctxFrame_keeps env bypass[c] r.fades[c] inputs[c] r.ctxs[c][(1 : Fin 2)]
    (ctxFrame env bypass[c] r.fades[c] inputs[c] r.ctxs[c][(0 : Fin 2)] r.mem).mem
  refine ⟨fun d y => ?_, fun h => secondWf (firstWf h)⟩
  simp only [chainFrame, setCtx_get]
  split
  · rename_i e; obtain ⟨rfl, rfl⟩ := e; exact second
  · split
    · rename_i e; obtain ⟨rfl, rfl⟩ := e; exact first
    · exact ⟨rfl, rfl, id⟩

theorem chainsRun_keeps (inbound : Vector Int 8) (s : State) :
    RunKeeps ⟨s.scc.ctxs, s.scc.fades, s.dpl.mem, s.chp.outputs⟩ (chainsRun inbound s) := by
  refine List.foldlRecOn (motive := RunKeeps _) chains _ ⟨fun _ _ => ⟨rfl, rfl, id⟩, id⟩ fun t ht c _ => ?_
  obtain ⟨same, wf⟩ := chainFrame_keeps (frameInputs s) s.bgv.bypass (chainInputs s.chp.inputs inbound) t c
  exact ⟨fun d y => (ht.1 d y).trans (same d y), fun h => wf (ht.2 h)⟩

namespace StepInvariant

variable {P : State → Prop} (K : StepInvariant P) {s : State}
include K

theorem keeps_chainsFrame (inbound : Vector Int 8) (h : P s) : P (chainsFrame inbound s) := by
  obtain ⟨same, wf⟩ := chainsRun_keeps inbound s
  have stored := K.mem (s := { s with scc := { s.scc with ctxs := (chainsRun inbound s).ctxs } })
    (chainsRun inbound s).mem wf (K.ctxs (chainsRun inbound s).ctxs same h)
  exact K.core {} stored

theorem keeps_advanceClock (h : P s) : P (advanceClock s) := K.core {} h

theorem keeps_processFrame (inbound : Vector Int 8) (h : P s) : P (processFrame inbound s) :=
  K.keeps_returnIfDone (K.keeps_advanceClock (K.keeps_routerFrame _ (K.keeps_tunerFrame _ (K.keeps_chainsFrame _ h))))

theorem keeps_sendFrame (n : BitVec 8) (samples : Vector Int 8) (lane : Word) (h : P s) : P (sendFrame n samples lane s) :=
  K.core {} h

theorem keeps_runFrame (n : BitVec 8) (inbound : Vector Int 8) (lane : Word) (h : P s) : P (runFrame n inbound lane s) :=
  K.keeps_sendFrame _ _ _ (K.keeps_processFrame _ h)

theorem keeps_conceal (misses : Nat) (h : P s) : P (conceal misses s) := K.core {} h

theorem keeps_concealedFrame (misses : Nat) (lane : Word) (h : P s) : P (concealedFrame misses lane s) :=
  K.keeps_runFrame _ _ _ (K.keeps_conceal _ h)

theorem keeps_receive (f : Frame) (h : P s) : P (receive f s) := by
  refine K.keeps_assembleWord _ ?_
  split
  · exact K.core {} h
  · exact K.core {} h

theorem keeps_lockedFrame (f : Frame) (h : P s) : P (lockedFrame f s) := by
  have before := K.keeps_beforeFrame (K.keeps_laneOut h)
  unfold lockedFrame
  dsimp only
  split
  · exact K.keeps_runFrame _ _ _ (K.keeps_receive f before)
  · exact K.keeps_concealedFrame _ _ before

theorem keeps_silentFrame (h : P s) : P (silentFrame s) :=
  K.keeps_runFrame _ _ _ (K.keeps_beforeFrame (K.keeps_laneOut h))

theorem keeps_countPosition (h : P s) : P (countPosition s) := K.core {} h

theorem keeps_holdoverEntry (h : P s) : P (holdoverEntry s) :=
  K.keeps_silentFrame (K.keeps_changeLink _ rfl (K.core (t := abandon s) {} h))

theorem keeps_missedSync (h : P s) : P (missedSync s) := by
  unfold missedSync
  split
  · exact K.keeps_holdoverEntry h
  · exact K.keeps_concealedFrame _ _ (K.keeps_beforeFrame (K.keeps_laneOut (K.keeps_countPosition h)))

theorem keeps_ownPeriod (h : P s) : P (ownPeriod s) := K.keeps_silentFrame (K.core {} h)

theorem keeps_watchRate (count : Nat) (h : P s) : P (watchRate count s) := by
  unfold watchRate
  split
  · split
    · exact K.core {} h
    · exact K.keeps_loseLink h
  · exact h

/-! #### Events and commands -/

theorem keeps_take (e : Event) (due : due e s = true) (h : P s) : P (take e s) := by
  cases e with
  | tunerSilence c => exact K.keeps_takeSilence c h
  | rampEnd i => exact K.core {} h
  | beat => exact K.keeps_takeBeat h
  | subdivision => exact K.core {} h
  | loadComplete c x => exact K.keeps_takeLoadComplete c x h
  | dipHalfway c => exact K.keeps_takeDipHalfway c h
  | fadeEnd c => exact K.keeps_takeFadeEnd c h
  | tailEnd c x => exact K.keeps_evaluationEvent (K.idle c x h)
  | spillLimit c x => exact K.keeps_evaluationEvent (K.cut c x h)
  | cutComplete c x => exact K.keeps_evaluationEvent (K.idle c x h)
  | loadStart => exact K.keeps_takeLoadStart h
  | pendingStart => exact K.keeps_takePendingStart h
  | holdoverExpiry => exact K.keeps_loseLink h
  | hold i => exact K.keeps_takeHold i h
  | measurementStart => exact K.core {} h
  | notice => exact K.keeps_takeNotice due h
  | parcelComplete => exact K.keeps_takeParcelComplete h
  | switch => exact K.keeps_takeSwitch h
  | evaluation => show P (evaluateNow s); exact K.keeps_evaluateNow h
  | tempoReset => exact K.keeps_takeTempoReset h

theorem keeps_attempt (e : Event) (h : P s) : P (attempt e s) := by
  unfold attempt
  split
  · exact K.keeps_take e ‹_› h
  · exact h

theorem keeps_attemptAll (events : List Event) (h : P s) : P (attemptAll events s) := by
  unfold attemptAll
  exact List.foldlRecOn events _ h fun _ ht e _ => K.keeps_attempt e ht

theorem keeps_settle (h : P s) : P (settle s) := K.keeps_attemptAll _ h

theorem keeps_supplyTick (h : P s) : P (supplyTick s) := K.core {} h

theorem keeps_inTurn (e : Event) (h : P s) : P (inTurn e s) := K.keeps_attempt e (K.keeps_attemptAll _ h)

theorem keeps_switches (h : P s) : P (switches s) :=
  K.keeps_attempt _ (K.keeps_attempt _ (K.keeps_attempt _ (K.keeps_settle h)))

theorem keeps_inLink (state : LinkState) (f : State → State) (keep : ∀ {t : State}, P t → P (f t)) (h : P s) :
    P (inLink state f s) := by
  unfold inLink
  split
  · exact keep (K.keeps_settle h)
  · exact K.keeps_settle h

theorem keeps_arrival (p : Parcel) (h : P s) : P (arriveParcel p (settle s)) := K.keeps_arriveParcel p (K.keeps_settle h)

theorem keeps_parcelComplete (h : P s) :
    P (if goodParcelArrived s then inTurn .parcelComplete s else attempt .parcelComplete s) := by
  split
  · exact K.keeps_inTurn _ h
  · exact K.keeps_attempt _ h

theorem keeps_enterHoldover (h : P s) : P (if 2 ≤ s.lif.misses then holdoverEntry s else s) := by
  split
  · exact K.keeps_holdoverEntry h
  · exact h

theorem keeps_idleFrame (h : P s) : P (if s.lif.state.processing then s else idleOut s) := by
  split
  · exact h
  · exact K.keeps_sendFrame _ _ _ h

/-- Every command answers a next state, and keeps what the elementary changes keep. -/
theorem keeps_exec (i : Instr) (h : P s) : ∃ t, exec i s = .next t ∧ P t := by
  cases i with
  | powerOn => exact ⟨_, rfl, K.powerOn h⟩
  | writeChainInput _ _ | setLiveParameter _ _ | setStageBypass _ _ | writeCurvePoints _ _ | readCurvePoints _ _
  | writeCabTaps _ _ | readCabTaps _ _ | readPool _ _ | writeSceneHeader _ _ | writeSection _ _ | writeStages _ _
  | eraseScene _ _ | readScene _ _ | select _ _ | call _ _ | ret _ _ | readContextStatus _ _ | setTempo _ _
  | tempoReset _ _ | tap _ _ | writeFootswitchLine _ _ | readFootswitchLog _ _ | writeTunerChannel _ _
  | setTunerEngage _ _ | setTunerReference _ _ | writeRoute _ _ | readRoutes _ _ | setPanic _ _ | showLockOn _ _
  | showLockOff _ _ | permit _ _ | forceGuardOn _ _ | forceGuardOff _ _ | supplyCheck _ _ | writeLinkFormat _ _
  | readMailboxes _ _ | readNotices _ _ | writeNoticeMask _ _ | readCounters _ _ | identify _ _ | restart _ _ =>
    exact ⟨_, rfl, K.keeps_arrival _ h⟩
  | unknownKind _ _ _ => exact ⟨_, rfl, K.keeps_arrival _ h⟩
  | parcelComplete => exact ⟨_, rfl, K.keeps_parcelComplete h⟩
  | enterMeasure => exact ⟨_, rfl, K.keeps_inLink _ _ (K.keeps_changeLink _ rfl) h⟩
  | measureSyncMissing => exact ⟨_, rfl, K.keeps_inLink _ _ K.keeps_enterSearch h⟩
  | measurementComplete count => exact ⟨_, rfl, K.keeps_inLink _ _ (K.keeps_measured count) h⟩
  | frameReceived f =>
    exact ⟨_, rfl, K.keeps_inLink _ _ (fun ht => K.keeps_lockedFrame f (K.keeps_countPosition ht)) h⟩
  | missingSync => exact ⟨_, rfl, K.keeps_inLink _ _ K.keeps_missedSync h⟩
  | enterHoldover => exact ⟨_, rfl, K.keeps_inLink _ _ K.keeps_enterHoldover h⟩
  | holdoverPeriod => exact ⟨_, rfl, K.keeps_inLink _ _ K.keeps_ownPeriod h⟩
  | holdoverReturn f =>
    exact ⟨_, rfl, K.keeps_inLink _ _ (fun ht => K.keeps_lockedFrame f (K.keeps_changeLink _ rfl ht)) h⟩
  | holdoverExpiry => exact ⟨_, rfl, K.keeps_inTurn _ h⟩
  | rateDeparture count => exact ⟨_, rfl, K.keeps_inLink _ _ (K.keeps_watchRate count) h⟩
  | idleFrame => exact ⟨_, rfl, K.keeps_idleFrame (K.keeps_settle h)⟩
  | tempoResetTaken => exact ⟨_, rfl, K.keeps_attempt _ (K.keeps_attempt _ (K.keeps_switches h))⟩
  | governorEvaluation => exact ⟨_, rfl, K.keeps_attempt _ (K.keeps_switches h)⟩
  | loadStart | pendingRequestStart => exact ⟨_, rfl, K.keeps_attempt _ (K.keeps_attemptAll _ h)⟩
  | switch => exact ⟨_, rfl, K.keeps_attempt _ (K.keeps_settle h)⟩
  | notice | beat | subdivision | measurementStart => exact ⟨_, rfl, K.keeps_attempt _ h⟩
  | dipHalfway _ | fadeEnd _ | rampEnd _ | tunerSilence _ => exact ⟨_, rfl, K.keeps_attempt _ h⟩
  | loadComplete _ _ | tailEnd _ _ | spillLimit _ _ | cutComplete _ _ => exact ⟨_, rfl, K.keeps_attempt _ h⟩
  | msTick pins => exact ⟨_, rfl, K.keeps_footswitchTick pins (K.keeps_supplyTick (K.keeps_settle h))⟩
  | hold i => exact ⟨_, rfl, K.keeps_inTurn _ h⟩
  | supplyReading c1 c2 =>
    refine ⟨_, rfl, ?_⟩
    split
    · exact K.keeps_takeReading _ _ _ (K.keeps_settle h)
    · exact K.keeps_settle h

/-- A step keeps what the elementary changes keep and the queue of commands does not touch. -/
theorem keeps_step (pending : ∀ (s : State) (q : List Instr), P s → P (s.withPending q)) {t : State} (h : P s)
    (e : step s = .next t) : P t := by
  unfold step at e
  split at e
  · cases e; exact h
  · rename_i i rest _
    obtain ⟨u, hu, hP⟩ := K.keeps_exec i (pending s rest h)
    rw [hu] at e
    cases e
    exact hP

end StepInvariant

/-! ### The bounds of the lists (R5, R63, R88, R103, R112, R184) -/

theorem bounded_setCtx {s : State} (h : Bounded s) (v : Vector (Vector Ctx 2) 4)
    (hv : ∀ (c : Fin 4) (x : Fin 2), v[c][x].stages.length ≤ 12) : Bounded { s with scc := { s.scc with ctxs := v } } := by
  obtain ⟨stack, taps, log, hold, -⟩ := h
  exact ⟨stack, taps, log, hold, hv⟩

theorem stages_of_bounded {s : State} (h : Bounded s) (c : Fin 4) (x : Fin 2) : (s.scc.ctx c x).stages.length ≤ 12 := by
  obtain ⟨-, -, -, -, stages⟩ := h
  exact stages c x

/-- A context that is replaced by one with no more than 12 stages. -/
theorem bounded_putCtx {s : State} (h : Bounded s) (c : Fin 4) (x : Fin 2) (k : Ctx) (hk : k.stages.length ≤ 12) :
    Bounded (putCtx c x k s) := by
  refine bounded_setCtx h _ fun d y => ?_
  rw [setCtx_get]
  split
  · exact hk
  · exact stages_of_bounded h d y

theorem allocate_length (stages : List Stage) (free : List Nat) : (allocate stages free).1.length = stages.length := by
  induction stages generalizing free with
  | nil => rfl
  | cons st rest ih => simp [allocate, ih]

/-- The elementary changes of a step keep the bounds. -/
theorem bounded_stepInvariant : StepInvariant Bounded where
  core e := by
    rintro ⟨stack, taps, log, hold, stages⟩
    unfold Bounded Scc.ctx
    rw [e.stack, e.taps, e.log, e.hold, e.ctxs]
    exact ⟨stack, taps, log, hold, stages⟩
  ctxs v same h := bounded_setCtx h v fun c x => (same c x).stages ▸ stages_of_bounded h c x
  idle c x h := bounded_putCtx h c x Ctx.empty (by simp [Ctx.empty])
  cut c x h := bounded_putCtx h c x _ (by simpa [Ctx.toCutting, Ctx.keepSpill] using stages_of_bounded h c x)
  spill c x h := bounded_putCtx h c x _ (by simpa [Ctx.toSpilling, Ctx.keepSpill] using stages_of_bounded h c x)
  load {s} f c h := by
    unfold loadChain
    dsimp only
    split
    · exact bounded_putCtx (s := { s with dpl := { s.dpl with free := _ } }) h c _ _
        (by simp [loadedCtx, allocate_length, SceneSection.records])
    · exact h
  mem m _ h := h
  stack l bound := fun ⟨stack, taps, log, hold, stages⟩ => ⟨bound stack, taps, log, hold, stages⟩
  taps l bound := fun ⟨stack, _, log, hold, stages⟩ => ⟨stack, bound, log, hold, stages⟩
  log l bound := fun ⟨stack, taps, log, hold, stages⟩ => ⟨stack, taps, bound log, hold, stages⟩
  hold l bound := fun ⟨stack, taps, log, hold, stages⟩ => ⟨stack, taps, log, bound hold, stages⟩
  queue q _ h := h
  reply p _ h := h
  period n h := h
  rate r n h := h
  powerOn _ := by
    refine ⟨Nat.zero_le _, Nat.zero_le _, Nat.zero_le _, Nat.zero_le _, fun c x => ?_⟩
    simp [State.reset, Scc.reset, Scc.ctx, Ctx.empty]

/-- Settles O6: the bounds are kept by every elementary change of a step, so by every step. -/
theorem stepKeepsTheBounds : Obligations.StepKeepsTheBounds :=
  fun _ _ h e => bounded_stepInvariant.keeps_step (fun _ _ h => h) h e

end Sys2Proof.Machine

namespace Sys2Proof.Machine

set_option Elab.async false

/-! ### Power-on, chain inputs and TRIM (R1 to R3, R9) -/

@[simp] theorem defaultCurve_get (i : Fin 257) : defaultCurve[i] = saturate (((i.val : Int) - 128) * 65536) := by
  simp [defaultCurve]

@[simp] theorem defaultCab_get (i : Fin 128) : defaultCab[i] = if i.val = 0 then 8388607 else 0 := by
  simp [defaultCab, sampleMax]

/-- Settles O3: each table is given by its entries, and each single field by its value. -/
theorem powerOnLeavesEveryBlockAsStated : Obligations.PowerOnLeavesEveryBlockAsStated := by
  have curve (i : Fin 257) := defaultCurve_get i
  have cab (i : Fin 128) := defaultCab_get i
  refine ⟨⟨fun c => ?_, fun k i => ?_, fun k i => ?_, rfl, fun n => ?_, fun c x => ?_, fun c => ?_, rfl, rfl, rfl⟩,
    rfl, rfl, rfl, rfl, rfl, rfl, rfl, rfl, rfl, rfl, fun i => ?_, fun c => ?_, rfl, rfl, fun i => ?_, rfl, rfl, rfl, rfl,
    rfl⟩
  · simp [State.reset, Chp.reset]
  · simpa [State.reset, Chp.reset] using curve i
  · simpa [State.reset, Chp.reset] using cab i
  · simp [State.reset, Scc.reset]
  · simp [State.reset, Scc.reset, Scc.ctx, Ctx.empty, Ctx.blocks]
  · simp [State.reset, Scc.reset, Fade.rest]
  · simp [State.reset, Tfu.reset, Line.reset]
  · simp [State.reset, Tun.reset]
  · simp [State.reset, Ort.reset]

/-- Settles O27: the parcel is admitted with nothing before it, so its owning block replaces the record. -/
theorem writeChainInputReplacesTheRecord : Obligations.WriteChainInputReplacesTheRecord := by
  constructor
  · intro tag c slot trim invert s clear adm
    let body : List Word := [word c.val, slot, trim, invert]
    refine ⟨chainInputOf body, ?_, ?_, rfl, ?_⟩
    · simp [chainInputOf, body, bodyNat, bodyWord, Nat.min_comm]
    · simp [chainInputOf, body, bodyNat, bodyWord, Nat.min_comm]
    · have index : bodyNat body 0 = c.val := word_toNat c.val (by omega)
      have effect (t : State) : kindEffect .writeChainInput body t =
          okWith [] { t with chp := { t.chp with inputs := upd t.chp.inputs c (chainInputOf body) } } := by
        simp [kindEffect, effWriteChainInput, index]
      have arrived := arrive_of_admitted .writeChainInput tag body s clear rfl adm
      rw [effect] at arrived
      exact congrArg Host.Outcome.next arrived
  · intro inbound s c
    simp [chainInputs, chainInput, saturate, sampleMin, sampleMax]

/-- Settles O30: the gain is clamped where a record is stored, and a stage that computes answers TRIM's arithmetic. -/
theorem trimMultipliesByItsGain : Obligations.TrimMultipliesByItsGain := by
  constructor
  · intro words g hg
    unfold recordOf paramsOf at hg
    dsimp only at hg
    split at hg <;> cases hg
    exact (clampNat_bounds 0 32767 _ (by omega)).2
  · intro env st g x mem hp hc
    have run : runStage env st x mem = { stage := st, out := saturate ((x * g + 2048) / 4096), mem := mem } := by
      simp [runStage, hc, computeStage, hp, trimOut, roundDiv]
    refine ⟨run, ?_, ?_⟩
    · rintro rfl
      rw [run]
      simp [saturate, sampleMin, sampleMax]
    · rintro rfl ⟨low, high⟩
      rw [run]
      have : (x * (4096 : Nat) + 2048) / 4096 = x := by omega
      rw [this]
      exact saturate_of_range x low high

end Sys2Proof.Machine

namespace Sys2Proof.Machine

set_option Elab.async false

/-! ### Live edits: the value stored (R24, R52, R201, R202) -/

theorem clampToNat_bounds (lo hi : Nat) (v : Int) (h : lo ≤ hi) : lo ≤ clampToNat lo hi v ∧ clampToNat lo hi v ≤ hi :=
  clampNat_bounds lo hi _ h

theorem clampToNat_cast (lo hi : Nat) (v : Int) : ((clampToNat lo hi v : Nat) : Int) = max (lo : Int) (min (hi : Int) v) := by
  unfold clampToNat clampNat
  omega

/-- An edit stores the value clamped to its range, and answers it. -/
theorem storeNat_clamp (f : Nat → StageParams) (lo hi : Nat) (v : Int) :
    storeNat f (clampToNat lo hi v) =
      some ⟨f (max (lo : Int) (min (hi : Int) v)).toNat, max (lo : Int) (min (hi : Int) v)⟩ := by
  rw [← clampToNat_cast]
  rfl

theorem rateModeOf_toNat (z : Int) (h : 0 ≤ z) : rateModeOf z.toNat = if z = 0 then .free else .sync := by
  obtain ⟨n, rfl⟩ := Int.eq_ofNat_of_zero_le h
  simp [rateModeOf]

theorem delayModeOf_toNat (z : Int) (h : 0 ≤ z) : delayModeOf z.toNat = if z = 0 then .fixed else .sync := by
  obtain ⟨n, rfl⟩ := Int.eq_ofNat_of_zero_le h
  simp [delayModeOf]

theorem divisionOf_toNat (z : Int) (h : 0 ≤ z) :
    divisionOf z.toNat = if z = 0 then .half else if z = 1 then .quarter else if z = 2 then .dottedEighth
      else if z = 3 then .quarterTriplet else if z = 4 then .eighth else .sixteenth := by
  obtain ⟨n, rfl⟩ := Int.eq_ofNat_of_zero_le h
  have table (m : Nat) : divisionOf m = if m = 0 then .half else if m = 1 then .quarter else if m = 2 then .dottedEighth
      else if m = 3 then .quarterTriplet else if m = 4 then .eighth else .sixteenth := by
    unfold divisionOf
    split <;> simp_all
  rw [Int.toNat_natCast, table]
  norm_cast

theorem params_of_storeNat {f : Nat → StageParams} {n : Nat} {e : ParamEdit} (h : storeNat f n = some e) :
    e.params = f n := by
  cases h; rfl

theorem params_of_storeInt {f : Int → StageParams} {z : Int} {e : ParamEdit} (h : storeInt f z = some e) :
    e.params = f z := by
  cases h; rfl

/-- An edit of a DELAY in range leaves one in range: each branch stores into one parameter, clamped. -/
theorem editDelay_inRange (p : DelayParams) (number : Nat) (v : Int) (e : ParamEdit) (hp : p.inRange)
    (h : editDelay p number v = some e) : e.params.inRange ∧ e.params.kind = 6 := by
  obtain ⟨maxLow, maxHigh, fixedLow, fixedHigh, feedback, wet, limitLow, limitHigh⟩ := hp
  unfold editDelay at h
  split at h
  case h_7 => cases h
  all_goals
    rw [params_of_storeNat h]
    refine ⟨?_, rfl⟩
    simp only [StageParams.inRange, DelayParams.inRange, clampToNat, clampNat]
    omega

/-- An edit leaves parameters in range and keeps their kind. -/
theorem editParam_inRange (p : StageParams) (number : Nat) (v : Int) (e : ParamEdit) (hp : p.inRange)
    (h : editParam p number v = some e) : e.params.inRange ∧ e.params.kind = p.kind := by
  cases p with
  | trim g =>
    simp only [editParam] at h
    split at h
    · rw [params_of_storeNat h]
      exact ⟨(clampToNat_bounds 0 32767 v (by omega)).2, rfl⟩
    · cases h
  | gate lo lcl hold =>
    obtain ⟨openHigh, closeHigh, holdHigh⟩ := hp
    simp only [editParam] at h
    split at h
    case h_4 => cases h
    all_goals
      rw [params_of_storeNat h]
      refine ⟨?_, rfl⟩
      simp only [StageParams.inRange, clampToNat, clampNat]
      omega
  | filter b0 b1 b2 a1 a2 =>
    obtain ⟨s0, s1, s2, s3, s4⟩ := hp
    have sample : IsSample (clampInt (-8388608) 8388607 v) := clampInt_bounds _ _ v (by decide)
    simp only [editParam] at h
    split at h
    case h_6 => cases h
    all_goals
      rw [params_of_storeInt h]
      exact ⟨⟨by assumption, by assumption, by assumption, by assumption, by assumption⟩, rfl⟩
  | tremolo depth mode period d =>
    obtain ⟨depthHigh, periodLow, periodHigh⟩ := hp
    simp only [editParam] at h
    split at h
    case h_5 => cases h
    all_goals
      rw [params_of_storeNat h]
      refine ⟨?_, rfl⟩
      simp only [StageParams.inRange, clampToNat, clampNat]
      omega
  | shaper drive curve code level =>
    obtain ⟨driveLow, driveHigh, levelHigh⟩ := hp
    simp only [editParam] at h
    split at h
    case h_5 => cases h
    all_goals
      rw [params_of_storeNat h]
      refine ⟨?_, rfl⟩
      simp only [StageParams.inRange, clampToNat, clampNat]
      omega
  | cab slot taps =>
    obtain ⟨tapsLow, tapsHigh⟩ := hp
    simp only [editParam] at h
    split at h
    case h_3 => cases h
    all_goals
      rw [params_of_storeNat h]
      refine ⟨?_, rfl⟩
      simp only [StageParams.inRange, clampToNat, clampNat]
      omega
  | delay d => exact editDelay_inRange d number v e hp h

/-- The numbers below which a kind's parameters stand (Table 11-6). -/
def StageParams.numbers : StageParams → Nat
  | .trim _ => 1
  | .gate _ _ _ => 3
  | .filter _ _ _ _ _ => 5
  | .tremolo _ _ _ _ => 4
  | .shaper _ _ _ _ => 4
  | .cab _ _ => 2
  | .delay _ => 8

/-- A number at or above those of the kind names no parameter. -/
theorem editParam_beyond (p : StageParams) (number : Nat) (v : Int) (h : p.numbers ≤ number) :
    editParam p number v = none := by
  cases p with
  | trim g => exact if_neg (Nat.ne_of_gt h)
  | gate lo lcl hold =>
    simp only [editParam]
    split
    case h_4 => rfl
    all_goals simp [StageParams.numbers] at h
  | filter b0 b1 b2 a1 a2 =>
    simp only [editParam]
    split
    case h_6 => rfl
    all_goals simp [StageParams.numbers] at h
  | tremolo depth mode period d =>
    simp only [editParam]
    split
    case h_5 => rfl
    all_goals simp [StageParams.numbers] at h
  | shaper drive curve code level =>
    simp only [editParam]
    split
    case h_5 => rfl
    all_goals simp [StageParams.numbers] at h
  | cab slot taps =>
    simp only [editParam]
    split
    case h_3 => rfl
    all_goals simp [StageParams.numbers] at h
  | delay d =>
    simp only [editParam, editDelay]
    split
    case h_7 => rfl
    all_goals simp [StageParams.numbers] at h

/-- Settles O29: each parameter of each kind stores its clamped value, and the rest are refused. -/
theorem liveEditsClampToTheRangeOfTheParameter : Obligations.LiveEditsClampToTheRangeOfTheParameter := by
  refine ⟨fun p number v e hp h => editParam_inRange p number v e hp h, fun v => ?_⟩
  intro within stores only division
  have nonneg (hi : Int) : 0 ≤ within 0 hi := le_max_left 0 _
  have rateMode := rateModeOf_toNat _ (nonneg 1)
  have delayMode := delayModeOf_toNat _ (nonneg 1)
  have divided := divisionOf_toNat _ (nonneg 5)
  have index (n : Nat) : ((clampFin n (within 0 n).toNat).val : Int) = within 0 n := by
    rw [clampFin_val]; simp only [within]; omega
  have beyond (p : StageParams) (n : Nat) (hn : p.numbers = n) : only p n :=
    fun number h => editParam_beyond p number v (hn.trans_le h)
  refine ⟨fun g => ⟨?_, beyond _ _ rfl⟩, fun lo lcl h => ⟨?_, ?_, ?_, beyond _ _ rfl⟩,
    fun b0 b1 b2 a1 a2 => ⟨rfl, rfl, rfl, rfl, rfl, beyond _ _ rfl⟩,
    fun depth mode period d => ⟨?_, ?_, ?_, ?_, beyond _ _ rfl⟩,
    fun drive curve code level => ⟨?_, ⟨_, index 15, ?_⟩, ⟨_, index 3, ?_⟩, ?_, beyond _ _ rfl⟩,
    fun slot taps => ⟨⟨_, index 7, ?_⟩, ?_, beyond _ _ rfl⟩,
    fun d => ⟨rfl, rfl, beyond _ _ rfl, ?_, ?_, ?_, ?_, ?_, ?_⟩⟩
  · exact storeNat_clamp .trim 0 32767 v
  · exact storeNat_clamp (fun n => .gate n lcl h) 0 8388607 v
  · exact storeNat_clamp (fun n => .gate lo n h) 0 8388607 v
  · exact storeNat_clamp (fun n => .gate lo lcl n) 0 65535 v
  · exact storeNat_clamp (fun n => .tremolo n mode period d) 0 256 v
  · exact (storeNat_clamp (fun n => .tremolo depth (rateModeOf n) period d) 0 1 v).trans
      (congrArg (fun m => some (ParamEdit.mk (.tremolo depth m period d) (within 0 1))) rateMode)
  · exact storeNat_clamp (fun n => .tremolo depth mode n d) 480 96000 v
  · exact (storeNat_clamp (fun n => .tremolo depth mode period (divisionOf n)) 0 5 v).trans
      (congrArg (fun x => some (ParamEdit.mk (.tremolo depth mode period x) (within 0 5))) divided)
  · exact storeNat_clamp (fun n => .shaper n curve code level) 256 16384 v
  · exact storeNat_clamp (fun n => .shaper drive (clampFin 15 n) code level) 0 15 v
  · exact storeNat_clamp (fun n => .shaper drive curve (clampFin 3 n) level) 0 3 v
  · exact storeNat_clamp (fun n => .shaper drive curve code n) 0 65535 v
  · exact storeNat_clamp (fun n => .cab (clampFin 7 n) taps) 0 7 v
  · exact storeNat_clamp (fun n => .cab slot n) 1 128 v
  · exact (storeNat_clamp (fun n => .delay { d with mode := delayModeOf n }) 0 1 v).trans
      (congrArg (fun m => some (ParamEdit.mk (.delay { d with mode := m }) (within 0 1))) delayMode)
  · exact storeNat_clamp (fun n => .delay { d with fixedLength := n }) 1 131072 v
  · exact (storeNat_clamp (fun n => .delay { d with division := divisionOf n }) 0 5 v).trans
      (congrArg (fun x => some (ParamEdit.mk (.delay { d with division := x }) (within 0 5))) divided)
  · exact storeNat_clamp (fun n => .delay { d with feedback := n }) 0 31130 v
  · exact storeNat_clamp (fun n => .delay { d with wet := n }) 0 32767 v
  · exact storeNat_clamp (fun n => .delay { d with spillLimit := n }) 1 4095 v

end Sys2Proof.Machine

namespace Sys2Proof.Machine

set_option Elab.async false

/-! ### Live edits: the stage that they reach (R24 to R26) -/

theorem evaluationEvent_of_processing (s : State) (h : s.lif.state.processing = true) :
    evaluationEvent s = markEvaluation s := if_pos h

/-- The change of a list at a place depends on what stands there alone. -/
theorem modify_eq_of_getElem? {α : Type} (l : List α) (i : Nat) (a : α) (f g : α → α) (h : l[i]? = some a)
    (e : f a = g a) : l.modify i f = l.modify i g := by
  apply List.ext_getElem?
  intro j
  rw [List.getElem?_modify, List.getElem?_modify]
  split
  · subst_vars; simp [h, e]
  · rfl

/-- Without a LIVE context the chain has no live stage (R24, step 2). -/
theorem liveStage_of_none {c : Fin 4} {i : Nat} {s : State} (h : liveCtx s.scc.ctxs[c] = none) :
    liveStage c i s = none := by
  unfold liveStage
  rw [h]

/-- The stages of a chain are those of its LIVE context (R24, step 3). -/
theorem liveStage_of_live {c : Fin 4} {i : Nat} {s : State} {x : Fin 2} (h : liveCtx s.scc.ctxs[c] = some x) :
    liveStage c i s = ((s.scc.ctx c x).stages[i]?).map fun st => (x, st) := by
  unfold liveStage
  rw [h]

theorem liveStage_beyond {c : Fin 4} {i : Nat} {s : State}
    (h : ∀ x : Fin 2, liveCtx s.scc.ctxs[c] = some x → (s.scc.ctx c x).stages.length ≤ i) : liveStage c i s = none := by
  cases live : liveCtx s.scc.ctxs[c] with
  | none => exact liveStage_of_none live
  | some x => rw [liveStage_of_live live, List.getElem?_eq_none (h x live), Option.map_none]

theorem liveStage_some {c : Fin 4} {i : Nat} {s : State} {x : Fin 2} {st : Stage} (h : liveCtx s.scc.ctxs[c] = some x)
    (hst : (s.scc.ctx c x).stages[i]? = some st) : liveStage c i s = some (x, st) := by
  rw [liveStage_of_live h, hst, Option.map_some]

/-- The edit of a stage takes down the hold count of a gate that stands above the new hold time, and no other part of
the processing state (Table 1-6). -/
theorem edit_eq (st : Stage) (number : Nat) (params : StageParams) (count : Nat)
    (hold : ∀ lo lcl h, params = .gate lo lcl h → count =
      if number = 2 ∧ st.proc.gate.state = .held then min st.proc.gate.holdCount h else st.proc.gate.holdCount)
    (other : (∀ lo lcl h, params ≠ .gate lo lcl h) → count = st.proc.gate.holdCount) :
    st.edit number params =
      { st with
        record := { st.record with params := params }
        proc := { st.proc with gate := { st.proc.gate with holdCount := count } } } := by
  unfold Stage.edit capHold
  cases params with
  | gate lo lcl h => rw [hold lo lcl h rfl]; dsimp only; split <;> rfl
  | _ => rw [other (fun _ _ _ => nofun)]

theorem editLive_of_absent {c : Fin 4} {i number : Nat} {v : Int} {s : State} (h : liveStage c i s = none) :
    editLive c i number v s = none := by
  unfold editLive
  rw [h]

theorem editLive_of_stage {c : Fin 4} {i number : Nat} {v : Int} {s : State} {x : Fin 2} {st : Stage}
    (proc : s.lif.state.processing = true) (h : liveStage c i s = some (x, st)) :
    editLive c i number v s = (editParam st.record.params number v).map fun e =>
      (markEvaluation (modifyStage c x i (fun st => st.edit number e.params) s), e.stored) := by
  unfold editLive
  rw [h]
  dsimp only
  split
  · rename_i e edit
    rw [edit, Option.map_some, evaluationEvent_of_processing _ (by exact proc)]
  · rename_i edit
    rw [edit, Option.map_none]

theorem bypassLive_of_absent {c : Fin 4} {i : Nat} {f : Bool → Bool} {s : State} (h : liveStage c i s = none) :
    bypassLive c i f s = none := by
  unfold bypassLive
  rw [h]

theorem bypassLive_of_stage {c : Fin 4} {i : Nat} {f : Bool → Bool} {s : State} {x : Fin 2} {st : Stage}
    (proc : s.lif.state.processing = true) (h : liveStage c i s = some (x, st)) :
    bypassLive c i f s = some (markEvaluation (modifyStage c x i (Stage.setBypass (f st.record.bypass)) s),
      f st.record.bypass) := by
  unfold bypassLive
  rw [h]
  dsimp only
  rw [evaluationEvent_of_processing _ (by exact proc)]

theorem effSetLiveParameter_none {body : List Word} {c : Fin 4} {s : State} (index : bodyNat body 0 = c.val)
    (h : editLive c (bodyNat body 1) (bodyNat body 2) (bodyTwo body 3).toInt s = none) :
    effSetLiveParameter body s = refuse .range s := by
  unfold effSetLiveParameter
  rw [index, withIndex_val]
  simp only [h]

theorem effSetLiveParameter_some {body : List Word} {c : Fin 4} {s t : State} {v : Int} (index : bodyNat body 0 = c.val)
    (h : editLive c (bodyNat body 1) (bodyNat body 2) (bodyTwo body 3).toInt s = some (t, v)) :
    effSetLiveParameter body s = okWith (twoWords v) t := by
  unfold effSetLiveParameter
  rw [index, withIndex_val]
  simp only [h]

theorem effSetStageBypass_none {body : List Word} {c : Fin 4} {s : State} (index : bodyNat body 0 = c.val)
    (h : bypassLive c (bodyNat body 1) (fun _ => bodyFlag body 2) s = none) :
    effSetStageBypass body s = refuse .range s := by
  unfold effSetStageBypass
  rw [index, withIndex_val]
  simp only [h]

theorem effSetStageBypass_some {body : List Word} {c : Fin 4} {s t : State} {on : Bool} (index : bodyNat body 0 = c.val)
    (h : bypassLive c (bodyNat body 1) (fun _ => bodyFlag body 2) s = some (t, on)) :
    effSetStageBypass body s = okWith [flagWord on] t := by
  unfold effSetStageBypass
  rw [index, withIndex_val]
  simp only [h]

/-- An unguarded parcel that nothing waits before and that its block refuses consumes the permit alone (R149, R187). -/
theorem arrive_refused {k : Kind} {tag : Word} {body : List Word} {s : State} (clear : Clear k s)
    (len : kindAccepts k body.length = true) (adm : kindGuarded k = false) (code : Code)
    (h : kindEffect k body (consumePermit (executing s)) = refuse code (consumePermit (executing s))) :
    arriveParcel { kind := Kind.code k, tag := tag, body := body } (settle s) =
      replied k tag code [] (consumePermit s) := by
  rw [arrive_of_admitted k tag body s clear len (admitted_of_unguarded k s adm), h]
  rfl

/-- An unguarded parcel that nothing waits before and that its block carries out. -/
theorem arrive_done {k : Kind} {tag : Word} {body : List Word} {s t : State} (clear : Clear k s)
    (len : kindAccepts k body.length = true) (adm : kindGuarded k = false) (data : List Word)
    (h : kindEffect k body (consumePermit (executing s)) = okWith data t) :
    arriveParcel { kind := Kind.code k, tag := tag, body := body } (settle s) =
      replied k tag .ok data (setQueue s.lct.queue t) := by
  rw [arrive_of_admitted k tag body s clear len (admitted_of_unguarded k s adm), h]
  rfl

/-- Settles O28: a check that fails leaves no live stage or no edit; otherwise the edit or the flag is written. -/
theorem liveEditsReachTheLiveContext : Obligations.LiveEditsReachTheLiveContext := by
  unfold Obligations.LiveEditsReachTheLiveContext
  intro holdAfter
  refine ⟨fun tag c i number high low s clear proc => ?_, fun tag c i on x st s clear proc live stage => ?_,
    fun tag c i on s clear absent => ?_⟩
  · let body : List Word := [word c.val, i, number, high, low]
    have index : bodyNat body 0 = c.val := word_toNat c.val (by omega)
    have refused (h : editLive c i.toNat number.toNat (high ++ low : BitVec 32).toInt (consumePermit (executing s)) = none) :
        exec (.setLiveParameter tag body) s = .next (replied .setLiveParameter tag .range [] (consumePermit s)) :=
      congrArg Host.Outcome.next (arrive_refused clear rfl rfl .range (effSetLiveParameter_none index h))
    have unreached (h : liveStage c i.toNat (consumePermit (executing s)) = none) := refused (editLive_of_absent h)
    refine ⟨fun none => unreached (liveStage_of_none none), fun x live => ⟨fun beyond => unreached ?_, fun st stage => ?_⟩⟩
    · refine liveStage_beyond fun y hy => ?_
      obtain rfl : x = y := Option.some.inj (live.symm.trans hy)
      exact beyond
    · have edited := editLive_of_stage (number := number.toNat) (v := (high ++ low : BitVec 32).toInt)
        (s := consumePermit (executing s)) proc (liveStage_some live stage)
      refine ⟨fun bad => refused (by rw [edited, bad, Option.map_none]), fun e edit => ?_⟩
      rw [edit, Option.map_some] at edited
      have written := edit_eq st number.toNat e.params (holdAfter st number.toNat e.params)
        (fun lo lcl h eq => by rw [eq]) (fun other => by
          cases h : e.params with
          | gate lo lcl hold => exact absurd h (other lo lcl hold)
          | _ => rfl)
      rw [← modify_eq_of_getElem? (s.scc.ctx c x).stages i.toNat st (fun st => st.edit number.toNat e.params)
        (fun _ => _) stage written]
      exact congrArg Host.Outcome.next
        (arrive_done clear rfl rfl _ (effSetLiveParameter_some (body := body) index edited))
  · let body : List Word := [word c.val, i, on]
    have index : bodyNat body 0 = c.val := word_toNat c.val (by omega)
    have written := bypassLive_of_stage (f := fun _ => on.getLsbD 0) (s := consumePermit (executing s)) proc
      (liveStage_some live stage)
    have stages := modify_eq_of_getElem? (s.scc.ctx c x).stages i.toNat st (Stage.setBypass (on.getLsbD 0))
      (fun _ => st.setBypass (on.getLsbD 0)) stage rfl
    unfold Stage.setBypass at stages
    rw [← stages]
    exact congrArg Host.Outcome.next
      (arrive_done clear rfl rfl _ (effSetStageBypass_some (body := body) index written))
  · have index : bodyNat [word c.val, i, on] 0 = c.val := word_toNat c.val (by omega)
    have unreached : liveStage c i.toNat (consumePermit (executing s)) = none := liveStage_beyond absent
    exact congrArg Host.Outcome.next
      (arrive_refused clear rfl rfl .range (effSetStageBypass_none index (bypassLive_of_absent unreached)))

end Sys2Proof.Machine

namespace Sys2Proof.Machine

set_option Elab.async false

/-! ### The arithmetic of the stages (R6, R10 to R18, R27 to R32, R36, R37) -/

theorem foldr_range_eq_sum (f : Nat → Int) (n : Nat) :
    (List.range n).foldr (fun k sum => f k + sum) 0 = ∑ k ∈ Finset.range n, f k := by
  have map (l : List Nat) : l.foldr (fun k sum => f k + sum) 0 = (l.map f).sum := by
    induction l with
    | nil => rfl
    | cons k l ih => simp [ih]
  rw [map]
  rfl

/-- The sum of taps times inputs, tap by tap; there is nothing beyond the ends of the two lists (R36). -/
theorem convolve_take (taps inputs : List Int) (n : Nat) :
    convolve (taps.take n) inputs = ∑ j ∈ Finset.range n, taps.getD j 0 * inputs.getD j 0 := by
  induction n generalizing taps inputs with
  | zero => cases taps <;> simp [convolve]
  | succ n ih =>
    rw [Finset.sum_range_succ']
    cases taps with
    | nil => simp [convolve]
    | cons h taps =>
      cases inputs with
      | nil => simp [convolve]
      | cons x inputs => simp [convolve, ih, add_comm]

theorem runStage_of_idle {env : FrameInputs} {st : Stage} {x : Int} {mem : List (Nat × Int)} (h : st.computes = false) :
    runStage env st x mem = { stage := st, out := x, mem := mem } := by
  unfold runStage
  rw [h]
  rfl

theorem runStage_of_computes {env : FrameInputs} {st : Stage} {x : Int} {mem : List (Nat × Int)}
    (h : st.computes = true) : runStage env st x mem = computeStage env st x mem := if_pos h

theorem computeStage_record (env : FrameInputs) (st : Stage) (x : Int) (mem : List (Nat × Int)) :
    (computeStage env st x mem).stage.record = st.record := by
  unfold computeStage
  split <;> rfl

theorem computeStage_blocks (env : FrameInputs) (st : Stage) (x : Int) (mem : List (Nat × Int)) :
    (computeStage env st x mem).stage.blocks = st.blocks := by
  unfold computeStage
  split <;> rfl

section
variable {env : FrameInputs} {st : Stage} {x : Int} {mem : List (Nat × Int)}

theorem computeStage_gate {lo lcl hold : Nat} (h : st.record.params = .gate lo lcl hold) :
    computeStage env st x mem =
      { stage := { st with proc := { st.proc with gate := (gateStep lo lcl hold st.proc.gate x).1 } }
        out := (gateStep lo lcl hold st.proc.gate x).2, mem := mem } := by
  unfold computeStage
  rw [h]

/-- One frame of a GATE stage, by the state that its transition enters (R11 to R13). -/
theorem gateStep_enters {lo lcl hold : Nat} {g : GateProc} {state : GateState} {count : Nat}
    (move : gateMove lo lcl hold g.state g.holdCount (gateEnvelope g.envelope x) = (state, count)) :
    gateStep lo lcl hold g x =
      (⟨gateEnvelope g.envelope x, state, count, gateGain state g.gain⟩,
        saturate (roundDiv (x * gateGain state g.gain) 256)) := by
  unfold gateStep
  dsimp only
  rw [move]

theorem computeStage_filter {b0 b1 b2 a1 a2 : Int} (h : st.record.params = .filter b0 b1 b2 a1 a2) :
    computeStage env st x mem =
      { stage := { st with proc := { st.proc with filter := (filterStep b0 b1 b2 a1 a2 st.proc.filter x).1 } }
        out := (filterStep b0 b1 b2 a1 a2 st.proc.filter x).2, mem := mem } := by
  unfold computeStage
  rw [h]

theorem computeStage_tremolo {depth : Nat} {mode : RateMode} {period : Nat} {d : Division}
    (h : st.record.params = .tremolo depth mode period d) :
    computeStage env st x mem =
      { stage := { st with proc :=
          { st.proc with phase := (tremoloStep depth mode period d env.clock st.proc.phase x).1 } }
        out := (tremoloStep depth mode period d env.clock st.proc.phase x).2, mem := mem } := by
  unfold computeStage
  rw [h]

theorem computeStage_shaper {drive : Nat} {slot : Fin 16} {code : Fin 4} {level : Nat}
    (h : st.record.params = .shaper drive slot code level) :
    computeStage env st x mem =
      { stage := { st with proc := { st.proc with previous :=
          (shaperStep drive env.curves[slot].live (oversampling st.effective) level st.proc.previous x).1 } }
        out := (shaperStep drive env.curves[slot].live (oversampling st.effective) level st.proc.previous x).2
        mem := mem } := by
  unfold computeStage
  rw [h]

theorem computeStage_cab {slot : Fin 8} {taps : Nat} (h : st.record.params = .cab slot taps) :
    computeStage env st x mem =
      { stage := { st with proc := { st.proc with history := (cabStep env.cabs[slot].live taps st.proc.history x).1 } }
        out := (cabStep env.cabs[slot].live taps st.proc.history x).2, mem := mem } := by
  unfold computeStage
  rw [h]

end

/-- Settles O31: a stage that does not compute is passed over; one that does answers the arithmetic of its kind. -/
theorem bypassedAndShedStagesPassTheirInput : Obligations.BypassedAndShedStagesPassTheirInput := by
  unfold Obligations.BypassedAndShedStagesPassTheirInput
  intro env st x mem
  refine ⟨fun off => ?_, fun bypass shed => ?_, fun _ => ⟨rfl, rfl, rfl⟩, ?_⟩
  · have idle : st.computes = false := by
      unfold Stage.computes
      rcases off with h | h <;> simp [h]
    exact ⟨runStage_of_idle idle, by simp [Stage.cost, idle]⟩
  · have computes : st.computes = true := by simp [Stage.computes, bypass, shed]
    exact ⟨runStage_of_computes computes, computeStage_record env st x mem, computeStage_blocks env st x mem⟩
  · intro sat gives
    refine ⟨fun lo lcl hold params => ?_, fun b0 b1 b2 a1 a2 params => ?_, fun depth mode period d params => ?_,
      fun drive slot code level params => ?_, fun slot taps params => ?_⟩
    · intro g e close enters up down
      have enter (state : GateState) (count : Nat) (move : gateMove lo lcl hold g.state g.holdCount e = (state, count)) :
          enters state count (gateGain state g.gain) := by
        have step := gateStep_enters (x := x) (g := st.proc.gate) move
        exact (computeStage_gate params).trans (by rw [step]; rfl)
      refine ⟨fun h above => enter .opened g.holdCount ?_, fun h below => enter .closed g.holdCount ?_,
        fun h above => enter .opened g.holdCount ?_, fun h below pos => enter .held hold ?_,
        fun h below zero => enter .closed g.holdCount ?_, fun h above => enter .opened g.holdCount ?_,
        fun h below more => enter .held (g.holdCount - 1) ?_, fun h below last => enter .closed 0 ?_⟩
      all_goals rw [h]
      · exact if_pos above
      · exact if_neg (Nat.not_le.mpr below)
      · exact if_pos above
      · exact (if_neg (Nat.not_le.mpr below)).trans (if_pos pos)
      · exact (if_neg (Nat.not_le.mpr below)).trans (if_neg (by omega))
      · exact if_pos above
      · exact (if_neg (Nat.not_le.mpr below)).trans (if_pos more)
      · exact (if_neg (Nat.not_le.mpr below)).trans (if_neg (by omega))
    · exact computeStage_filter params
    · intro gain out length
      refine ⟨?_, ?_⟩
      · rintro rfl
        exact computeStage_tremolo params
      · rintro rfl
        exact computeStage_tremolo params
    · intro points n value sub look average
      have shaped : shaperAverage env.curves[slot].live st.proc.previous value n = average :=
        congrArg (roundDiv · n) (foldr_range_eq_sum _ n)
      have step : shaperStep drive env.curves[slot].live n level st.proc.previous x =
          (value, sat ((average * level + 16384) / 32768)) := by
        rw [← shaped]
        rfl
      exact (computeStage_shaper params).trans (by rw [show oversampling st.effective = n from rfl, step])
    · intro inputs
      refine (computeStage_cab params).trans ?_
      have summed := convolve_take env.cabs[slot].live.toList inputs taps
      unfold cabStep
      rw [summed]
      rfl

end Sys2Proof.Machine

namespace Sys2Proof.Machine

set_option Elab.async false

/-! ### Weighted means (R19, R83, R84) -/

/-- A weighted mean, rounded half up, lies between the two samples. -/
theorem roundDiv_mean_between (d : Nat) (a b o w : Int) (ha : 0 ≤ a) (hb : 0 ≤ b) (sum : a + b = d) (pos : 0 < d) :
    min o w ≤ roundDiv (o * a + w * b) d ∧ roundDiv (o * a + w * b) d ≤ max o w := by
  have pos' : (0 : Int) < d := by exact_mod_cast pos
  have half : ((d / 2 : Nat) : Int) < d := by exact_mod_cast Nat.div_lt_self pos (by omega)
  have low : min o w * d ≤ o * a + w * b := by
    rw [← sum, mul_add]
    exact add_le_add (mul_le_mul_of_nonneg_right (min_le_left o w) ha) (mul_le_mul_of_nonneg_right (min_le_right o w) hb)
  have high : o * a + w * b ≤ max o w * d := by
    rw [← sum, mul_add]
    exact add_le_add (mul_le_mul_of_nonneg_right (le_max_left o w) ha) (mul_le_mul_of_nonneg_right (le_max_right o w) hb)
  unfold roundDiv
  constructor
  · rw [Int.le_ediv_iff_mul_le pos']
    omega
  · rw [← Int.lt_add_one_iff, Int.ediv_lt_iff_lt_mul pos', add_mul, one_mul]
    omega

/-- A whole number is rounded to itself. -/
theorem roundDiv_mul_self (m : Int) (d : Nat) (pos : 0 < d) : roundDiv (m * d) d = m := by
  have pos' : (0 : Int) < d := by exact_mod_cast pos
  have half : ((d / 2 : Nat) : Int) < d := by exact_mod_cast Nat.div_lt_self pos (by omega)
  unfold roundDiv
  rw [add_comm, Int.add_mul_ediv_right _ _ pos'.ne', Int.ediv_eq_zero_of_lt (Int.natCast_nonneg _) half, zero_add]

/-- A share of a sample, rounded half up, lies between 0 and the sample. -/
theorem roundDiv_share_between (d : Nat) (a o : Int) (ha : 0 ≤ a) (hd : a ≤ d) (pos : 0 < d) :
    min 0 o ≤ roundDiv (o * a) d ∧ roundDiv (o * a) d ≤ max 0 o := by
  have mean := roundDiv_mean_between d a (d - a) o 0 ha (by omega) (by omega) pos
  rw [zero_mul, add_zero] at mean
  rwa [min_comm, max_comm]

/-- A share of a sample is no greater than the sample. -/
theorem roundDiv_share_abs (d : Nat) (a o : Int) (ha : 0 ≤ a) (hd : a ≤ d) (pos : 0 < d) :
    |roundDiv (o * a) d| ≤ |o| := by
  obtain ⟨low, high⟩ := roundDiv_share_between d a o ha hd pos
  rw [abs_le]
  constructor
  · exact le_trans (le_min (neg_nonpos.mpr (abs_nonneg o)) (neg_abs_le o)) low
  · exact le_trans high (max_le (abs_nonneg o) (le_abs_self o))

/-- Pan leaves one side as it is and never raises the other (R19). -/
theorem panPair_spec (pan y : Int) (low : -64 ≤ pan) (high : pan ≤ 64) :
    (0 ≤ pan → panPair pan y = ((y * (64 - pan) + 32) / 64, y)) ∧
    (pan < 0 → panPair pan y = (y, (y * (64 + pan) + 32) / 64)) ∧
    |(panPair pan y).1| ≤ |y| ∧ |(panPair pan y).2| ≤ |y| := by
  by_cases right : 0 ≤ pan
  · have pair : panPair pan y = (roundDiv (y * (64 - pan)) 64, y) := if_pos right
    refine ⟨fun _ => pair, fun left => absurd right (by omega), ?_, ?_⟩
    · rw [pair]; exact roundDiv_share_abs 64 _ y (by omega) (by omega) (by omega)
    · rw [pair]
  · have pair : panPair pan y = (y, roundDiv (y * (64 + pan)) 64) := if_neg right
    refine ⟨fun h => absurd h right, fun _ => pair, ?_, ?_⟩
    · rw [pair]
    · rw [pair]; exact roundDiv_share_abs 64 _ y (by omega) (by omega) (by omega)

/-- A crossfade of 2^e frames: the weighted mean, from the outgoing sample to the incoming one (R83). -/
theorem crossfade_spec (e k : Nat) (o w : Int) (he : 6 ≤ e) (hk : k ≤ 2 ^ e) :
    crossfade (2 ^ e) k o w = (o * (2 ^ e - k) + w * k + 2 ^ (e - 1)) / 2 ^ e ∧
    min o w ≤ crossfade (2 ^ e) k o w ∧ crossfade (2 ^ e) k o w ≤ max o w ∧
      crossfade (2 ^ e) 0 o w = o ∧ crossfade (2 ^ e) (2 ^ e) o w = w := by
  have pos : 0 < 2 ^ e := Nat.two_pow_pos e
  have half : (2 ^ e / 2 : Nat) = 2 ^ (e - 1) := by
    obtain ⟨n, rfl⟩ : ∃ n, e = n + 1 := ⟨e - 1, by omega⟩
    rw [pow_succ, Nat.mul_div_cancel _ (by omega), Nat.add_sub_cancel]
  have between := roundDiv_mean_between (2 ^ e) ((2 ^ e : Nat) - k : Int) k o w (by omega) (by omega) (by omega) pos
  refine ⟨?_, between.1, between.2, ?_, ?_⟩
  · unfold crossfade roundDiv
    rw [half]
    push_cast
    rfl
  · unfold crossfade
    rw [Nat.cast_zero, sub_zero, mul_zero, add_zero]
    exact roundDiv_mul_self o _ pos
  · unfold crossfade
    rw [sub_self, mul_zero, zero_add]
    exact roundDiv_mul_self w _ pos

/-- A dip: the outgoing sample down to silence, then the incoming one up (R84). -/
theorem dipMix_spec (k : Nat) (o w : Int) (hk : k < 64) :
    (k < 32 → dipMix k o w = (o * (32 - k) + 16) / 32 ∧ min 0 o ≤ dipMix k o w ∧ dipMix k o w ≤ max 0 o) ∧
    (32 ≤ k → dipMix k o w = (w * (k - 32) + 16) / 32 ∧ min 0 w ≤ dipMix k o w ∧ dipMix k o w ≤ max 0 w) ∧
    dipMix 0 o w = o ∧ dipMix 32 o w = 0 ∧ dipMix 64 o w = w := by
  refine ⟨fun down => ?_, fun up => ?_, ?_, ?_, ?_⟩
  · have mix : dipMix k o w = roundDiv (o * (32 - k)) 32 := if_pos down
    have between := roundDiv_share_between 32 (32 - k) o (by omega) (by omega) (by omega)
    rw [mix]
    exact ⟨rfl, between⟩
  · have mix : dipMix k o w = roundDiv (w * (k - 32)) 32 := if_neg (by omega)
    have between := roundDiv_share_between 32 (k - 32) w (by omega) (by omega) (by omega)
    rw [mix]
    exact ⟨rfl, between⟩
  · exact roundDiv_mul_self o 32 (by omega)
  · show roundDiv (w * 0) 32 = 0
    rw [mul_zero]
    rfl
  · exact roundDiv_mul_self w 32 (by omega)

/-! ### A stage list in order (R5) -/

/-- What stage i of a list takes: its input, and the samples of the pool as the stages before it leave them. -/
def stageInputs (env : FrameInputs) : List Stage → Int → List (Nat × Int) → Nat → Int × List (Nat × Int)
  | st :: rest, x, mem, i + 1 => stageInputs env rest (runStage env st x mem).out (runStage env st x mem).mem i
  | _, x, mem, _ => (x, mem)

theorem stageInputs_zero (env : FrameInputs) (stages : List Stage) (x : Int) (mem : List (Nat × Int)) :
    stageInputs env stages x mem 0 = (x, mem) := by
  cases stages <;> rfl

/-- A stage takes the output of the stage before it. -/
theorem stageInputs_succ (env : FrameInputs) (stages : List Stage) (x : Int) (mem : List (Nat × Int)) (i : Nat) (st : Stage)
    (h : stages[i]? = some st) :
    stageInputs env stages x mem (i + 1) =
      ((runStage env st (stageInputs env stages x mem i).1 (stageInputs env stages x mem i).2).out,
        (runStage env st (stageInputs env stages x mem i).1 (stageInputs env stages x mem i).2).mem) := by
  induction stages generalizing x mem i with
  | nil => cases h
  | cons first rest ih =>
    cases i with
    | zero =>
      obtain rfl : first = st := Option.some.inj h
      exact stageInputs_zero env rest _ _
    | succ i => exact ih _ _ i h

/-- A run of a stage list: each stage as its input leaves it, and the output of the last. -/
theorem runList_eq (env : FrameInputs) (stages : List Stage) (x : Int) (mem : List (Nat × Int)) :
    (runList env stages x mem).1.length = stages.length ∧
    (∀ (i : Nat) (st : Stage), stages[i]? = some st → (runList env stages x mem).1[i]? =
      some (runStage env st (stageInputs env stages x mem i).1 (stageInputs env stages x mem i).2).stage) ∧
    (runList env stages x mem).2 = stageInputs env stages x mem stages.length := by
  induction stages generalizing x mem with
  | nil => exact ⟨rfl, fun i st h => by simp at h, rfl⟩
  | cons first rest ih =>
    obtain ⟨length, at', last⟩ := ih (runStage env first x mem).out (runStage env first x mem).mem
    refine ⟨congrArg (· + 1) length, fun i st h => ?_, last⟩
    cases i with
    | zero =>
      obtain rfl : first = st := Option.some.inj h
      rfl
    | succ i => exact at' i st h

/-- A full-list context runs its stages in index order and then its pan (R5, R19). -/
theorem fullFrame_ran (env : FrameInputs) (x : Int) (k : Ctx) (mem : List (Nat × Int)) :
    ContextRan env x k mem (fullFrame env x k mem) := by
  obtain ⟨length, at', last⟩ := runList_eq env k.stages x mem
  have zero := stageInputs_zero env k.stages x mem
  refine ⟨fun i => (stageInputs env k.stages x mem i).1, fun i => (stageInputs env k.stages x mem i).2,
    (runList env k.stages x mem).1, congrArg Prod.fst zero, congrArg Prod.snd zero, length, fun i st h => ?_, ?_⟩
  · have succ := stageInputs_succ env k.stages x mem i st h
    exact ⟨at' i st h, congrArg Prod.fst succ, congrArg Prod.snd succ⟩
  · unfold fullFrame
    dsimp only
    rw [← last]

/-! ### The frame of a chain (R20 to R23, R83) -/

theorem fadeHolds_iff (kind : FadeKind) : kind.holds = true ↔ kind = .dipCross ∨ kind = .dipIn := by
  cases kind <;> simp [FadeKind.holds]

theorem held_iff (k : Ctx) (fade : Fade) :
    k.held fade = true ↔ k.state = .live ∧ (fade.kind = .dipCross ∨ fade.kind = .dipIn) ∧ fade.k < 32 := by
  simp [Ctx.held, fadeHolds_iff, and_assoc]

theorem running_iff (state : CtxState) :
    state.running = true ↔ state = .live ∨ state = .fadingOut ∨ state = .spilling ∨ state = .cutting := by
  cases state <;> simp [CtxState.running]

theorem tail_iff (state : CtxState) : state.tail = true ↔ state = .spilling ∨ state = .cutting := by
  cases state <;> simp [CtxState.tail]

/-- No context of a bypassed chain runs; a LOADING one counts its frame (R23, R80). -/
theorem ctxFrame_bypassed (env : FrameInputs) (fade : Fade) (x : Int) (k : Ctx) (mem : List (Nat × Int)) :
    ctxFrame env true fade x k mem =
      ⟨if k.state = .loading then { k with loadCount := k.loadCount + 1 } else k, none, mem⟩ := by
  unfold ctxFrame
  cases h : k.state <;> simp

/-- A frame does not change the state of a context. -/
theorem ctxFrame_state (env : FrameInputs) (bypassed : Bool) (fade : Fade) (x : Int) (k : Ctx) (mem : List (Nat × Int)) :
    (ctxFrame env bypassed fade x k mem).ctx.state = k.state := by
  unfold ctxFrame
  split
  · rfl
  · rfl
  · rfl
  all_goals split <;> rfl

/-- One frame of a context by its state (Table 1-1). -/
theorem ctxFrame_stepped (env : FrameInputs) (fade : Fade) (x : Int) (k : Ctx) (mem : List (Nat × Int)) :
    ContextStepped env fade x k mem (ctxFrame env false fade x k mem) := by
  unfold ContextStepped
  intro held
  have notHeld : ¬ held → k.held fade = false := fun h => by
    rw [← Bool.not_eq_true, held_iff]
    exact fun g => h g.2
  refine ⟨?_, ?_, fun h => ?_, fun _ => rfl⟩
  · rintro (h | ⟨h, free⟩)
    · have run : ctxFrame env false fade x k mem = fullFrame env x k mem := by
        unfold ctxFrame; rw [h]; rfl
      rw [run]
      exact fullFrame_ran env x k mem
    · have run : ctxFrame env false fade x k mem = fullFrame env x k mem := by
        unfold ctxFrame; rw [h]; dsimp only; rw [notHeld free]; rfl
      rw [run]
      exact fullFrame_ran env x k mem
  · rintro (h | h | ⟨h, stopped⟩)
    · unfold ctxFrame; rw [h]
    · unfold ctxFrame; rw [h]
    · unfold ctxFrame; rw [h]; dsimp only; rw [(held_iff k fade).mpr ⟨h, stopped⟩]; rfl
  · unfold ctxFrame; rw [h]

theorem mainPair_of_kind {fade : Fade} {kind : FadeKind} (h : fade.kind = kind) (live fading : Int × Int) :
    mainPair fade live fading = mainPair { fade with kind := kind } live fading := by
  subst h
  rfl

/-- The output of a chain that the governor has not bypassed (R20 to R22). -/
theorem outputPair_summed (fade : Fade) (x : Int) (k l : Ctx) (cs : Vector Ctx 2) (f g : CtxFrame)
    (hk : cs[(0 : Fin 2)] = k) (hl : cs[(1 : Fin 2)] = l) (hf : f.ctx.state = k.state) (hg : g.ctx.state = l.state) :
    PairsSummed fade k l f g (if hasOutput false cs then some (outputPair false fade x f g) else none) := by
  unfold PairsSummed
  intro of mixed cross dip tail runs
  have pair (state : CtxState) : pairIn state f g = of state := by
    unfold pairIn
    rw [hf, hg]
  have tailF : tailPair f = tail k f.pair := by
    unfold tailPair
    rw [hf]
    simp only [tail_iff]
    rfl
  have tailG : tailPair g = tail l g.pair := by
    unfold tailPair
    rw [hg]
    simp only [tail_iff]
    rfl
  have output : hasOutput false cs = true ↔ runs k ∨ runs l := by
    unfold hasOutput
    rw [hk, hl]
    simp [running_iff, runs]
  refine ⟨mainPair fade (of .live) (of .fadingOut), ?_, ?_, ?_, ?_, ?_, ?_, ?_, fun h => ?_, fun hk hl => ?_⟩
  iterate 7
    · exact fun kind => mainPair_of_kind kind _ _
  · rw [if_pos (output.mpr h)]
    unfold outputPair
    simp only [pair, tailF, tailG]
    rfl
  · exact if_neg fun h => (output.mp h).elim hk hl

section
variable (env : FrameInputs) (bypass : Vector Bool 4) (inputs : Vector Int 4) (r : ChainsRun) (c : Fin 4)

/-- One chain's frame leaves the others (R4). -/
theorem chainFrame_other (d : Fin 4) (ne : d ≠ c) :
    (chainFrame env bypass inputs r c).ctxs[d] = r.ctxs[d] ∧ (chainFrame env bypass inputs r c).fades[d] = r.fades[d] ∧
      (chainFrame env bypass inputs r c).outputs[d] = r.outputs[d] := by
  have ne' : c.val ≠ d.val := fun e => ne (Fin.ext e.symm)
  simp [chainFrame, setCtx, upd_get_ne, ne']

theorem chainFrame_ctx0 : (chainFrame env bypass inputs r c).ctxs[c][(0 : Fin 2)] =
    (ctxFrame env bypass[c] r.fades[c] inputs[c] r.ctxs[c][(0 : Fin 2)] r.mem).ctx := by
  unfold chainFrame
  dsimp only
  rw [setCtx_get, if_neg (by simp), setCtx_get, if_pos ⟨rfl, rfl⟩]

theorem chainFrame_ctx1 : (chainFrame env bypass inputs r c).ctxs[c][(1 : Fin 2)] =
    (ctxFrame env bypass[c] r.fades[c] inputs[c] r.ctxs[c][(1 : Fin 2)]
      (ctxFrame env bypass[c] r.fades[c] inputs[c] r.ctxs[c][(0 : Fin 2)] r.mem).mem).ctx := by
  unfold chainFrame
  dsimp only
  rw [setCtx_get, if_pos ⟨rfl, rfl⟩]

theorem chainFrame_fade : (chainFrame env bypass inputs r c).fades[c] = r.fades[c].advance := by
  simp [chainFrame]

theorem chainFrame_output : (chainFrame env bypass inputs r c).outputs[c] =
    if hasOutput bypass[c] r.ctxs[c] then some (outputPair bypass[c] r.fades[c] inputs[c]
      (ctxFrame env bypass[c] r.fades[c] inputs[c] r.ctxs[c][(0 : Fin 2)] r.mem)
      (ctxFrame env bypass[c] r.fades[c] inputs[c] r.ctxs[c][(1 : Fin 2)]
        (ctxFrame env bypass[c] r.fades[c] inputs[c] r.ctxs[c][(0 : Fin 2)] r.mem).mem)) else none := by
  simp [chainFrame]

end

/-- Settles O32: the means are those of `roundDiv_mean_between`; the frame of a chain goes context by context. -/
theorem mixingStaysBetweenTheSamples : Obligations.MixingStaysBetweenTheSamples := by
  refine ⟨fun pan y low high _ => panPair_spec pan y low high, fun e k o w he hk => crossfade_spec e k o w he hk,
    fun k o w hk => dipMix_spec k o w hk, fun env bypass inputs r c => ?_, fun inbound s => rfl⟩
  intro t k l counted
  refine ⟨chainFrame_other env bypass inputs r c, fun none => ?_, fun some => ?_, fun off => ?_, fun on => ?_⟩
  · exact (chainFrame_fade env bypass inputs r c).trans (if_pos none)
  · exact (chainFrame_fade env bypass inputs r c).trans (if_neg some)
  · have ctx0 := chainFrame_ctx0 env bypass inputs r c
    have ctx1 := chainFrame_ctx1 env bypass inputs r c
    have output := chainFrame_output env bypass inputs r c
    have mem : t.mem = (ctxFrame env bypass[c] r.fades[c] inputs[c] l
      (ctxFrame env bypass[c] r.fades[c] inputs[c] k r.mem).mem).mem := rfl
    rw [off] at ctx0 ctx1 output mem
    simp only [ctxFrame_bypassed] at ctx0 ctx1 mem
    exact ⟨output, mem, ctx0, ctx1⟩
  · have ctx0 := chainFrame_ctx0 env bypass inputs r c
    have ctx1 := chainFrame_ctx1 env bypass inputs r c
    have output := chainFrame_output env bypass inputs r c
    have mem : t.mem = (ctxFrame env bypass[c] r.fades[c] inputs[c] l
      (ctxFrame env bypass[c] r.fades[c] inputs[c] k r.mem).mem).mem := rfl
    rw [on] at ctx0 ctx1 output mem
    refine ⟨_, _, ctxFrame_stepped env r.fades[c] inputs[c] k r.mem, ctxFrame_stepped env r.fades[c] inputs[c] l _,
      ctx0, ctx1, mem, ?_⟩
    rw [output]
    exact outputPair_summed r.fades[c] inputs[c] k l r.ctxs[c] _ _ rfl rfl (ctxFrame_state ..) (ctxFrame_state ..)

end Sys2Proof.Machine

namespace Sys2Proof.Machine

set_option Elab.async false

/-! ### The stages that passes 1 and 2 reach (R156, R157)

The places of a running set are its reached stages, listed in the order of the keys, and a change of one stage leaves the
list as it is. -/

theorem mem_fullList (r : RunSet) (c : Fin 4) (x : Fin 2) : x ∈ r.fullList c ↔
    (r.ctxs[c][x].state = .fadingOut ∨ r.ctxs[c][x].state = .live ∧ r.ctxs[c][x].held r.fades[c] = false) := by
  have two : ∀ y : Fin 2, y = 0 ∨ y = 1 := by decide
  simp [RunSet.fullList, two x]

theorem mem_places (r : RunSet) (p : Place) : p ∈ r.places ↔ ∃ st : Stage, Reached r p st := by
  have every : ∀ c : Fin 4, c ∈ ([3, 2, 1, 0] : List (Fin 4)) := by decide
  obtain ⟨c, x, i⟩ := p
  simp only [RunSet.places, List.mem_flatMap, mem_fullList, List.mem_map, List.mem_reverse, List.mem_range, Place.mk.injEq,
    Reached, exists_and_right]
  constructor
  · rintro ⟨c, -, x, run, i, hi, rfl, rfl, rfl⟩
    exact ⟨⟨_, List.getElem?_eq_getElem hi⟩, run⟩
  · rintro ⟨⟨st, hst⟩, run⟩
    exact ⟨c, every c, x, run, i, (List.getElem?_eq_some_iff.mp hst).1, rfl, rfl, rfl⟩

theorem not_live_of_fading {k : Ctx} (h : k.state = .fadingOut) : k.state ≠ .live := fun e => nomatch e.symm.trans h

theorem not_precedes_self (r : RunSet) (p : Place) : ¬ Precedes r p p := by
  rintro (h | ⟨-, h | ⟨-, h⟩⟩)
  · exact lt_irrefl _ h
  · exact not_live_of_fading h.1 h.2
  · exact lt_irrefl _ h

/-- The FADING_OUT contexts of a chain come before its LIVE ones. -/
theorem fullList_ordered (r : RunSet) (c : Fin 4) : (r.fullList c).Pairwise fun x y =>
    y ≠ x ∧ ¬ (r.ctxs[c][y].state = .fadingOut ∧ r.ctxs[c][x].state = .live) := by
  have distinct (P : Fin 2 → Bool) : (([0, 1] : List (Fin 2)).filter P).Pairwise fun x y => y ≠ x :=
    List.Pairwise.sublist List.filter_sublist (by decide)
  refine List.pairwise_append.mpr ⟨?_, ?_, fun x hx y hy => ?_⟩
  · refine (distinct _).imp_of_mem fun {x y} hx _ ne => ⟨ne, fun ⟨_, live⟩ => ?_⟩
    exact not_live_of_fading (of_decide_eq_true (List.mem_filter.mp hx).2) live
  · refine (distinct _).imp_of_mem fun {x y} _ hy ne => ⟨ne, fun ⟨fading, _⟩ => ?_⟩
    exact not_live_of_fading fading (of_decide_eq_true (Bool.and_eq_true_iff.mp (List.mem_filter.mp hy).2).1)
  · have fading : r.ctxs[c][x].state = .fadingOut := of_decide_eq_true (List.mem_filter.mp hx).2
    have live : r.ctxs[c][y].state = .live := of_decide_eq_true (Bool.and_eq_true_iff.mp (List.mem_filter.mp hy).2).1
    exact ⟨fun e => not_live_of_fading fading (e ▸ live), fun ⟨h, _⟩ => not_live_of_fading h live⟩

theorem places_ordered (r : RunSet) : r.places.Pairwise fun p q => ¬ Precedes r q p := by
  refine List.pairwise_flatMap.mpr ⟨fun c _ => List.pairwise_flatMap.mpr ⟨fun x _ => ?_, ?_⟩, ?_⟩
  · refine List.pairwise_map.mpr (List.pairwise_reverse.mpr (List.pairwise_lt_range.imp fun {i j} lt => ?_))
    rintro (h | ⟨-, h | ⟨-, h⟩⟩)
    · exact lt_irrefl _ h
    · exact not_live_of_fading h.1 h.2
    · exact absurd lt (Nat.lt_asymm h)
  · refine (fullList_ordered r c).imp fun {x y} ⟨ne, order⟩ p hp q hq => ?_
    obtain ⟨i, -, rfl⟩ := List.mem_map.mp hp
    obtain ⟨j, -, rfl⟩ := List.mem_map.mp hq
    rintro (h | ⟨-, h | ⟨h, -⟩⟩)
    · exact lt_irrefl _ h
    · exact order h
    · exact ne h
  · have down : ([3, 2, 1, 0] : List (Fin 4)).Pairwise fun c d => d < c := by decide
    refine down.imp fun {c d} lt p hp q hq => ?_
    obtain ⟨x, -, hp⟩ := List.mem_flatMap.mp hp
    obtain ⟨y, -, hq⟩ := List.mem_flatMap.mp hq
    obtain ⟨i, -, rfl⟩ := List.mem_map.mp hp
    obtain ⟨j, -, rfl⟩ := List.mem_map.mp hq
    rintro (h | ⟨h, -⟩)
    · exact absurd lt (not_lt_of_gt h)
    · exact absurd h (ne_of_gt lt)

/-- The first place with a property comes before every other one with it. -/
theorem find_places (r : RunSet) (P : Place → Bool) (p : Place) (h : r.places.find? P = some p) :
    P p = true ∧ (∃ st : Stage, Reached r p st) ∧
      ∀ (q : Place) (st : Stage), Reached r q st → P q = true → ¬ Precedes r q p := by
  obtain ⟨hp, before, after, split, first⟩ := List.find?_eq_some_iff_append.mp h
  have ordered := split ▸ places_ordered r
  refine ⟨hp, (mem_places r p).mp (by simp [split]), fun q st hq hP => ?_⟩
  have mem : q ∈ before ++ p :: after := split ▸ (mem_places r q).mpr ⟨st, hq⟩
  rcases List.mem_append.mp mem with h | h
  · exact absurd hP (by simpa using first q h)
  · rcases List.mem_cons.mp h with rfl | h
    · exact not_precedes_self r q
    · exact (List.pairwise_cons.mp (List.pairwise_append.mp ordered).2.1).1 q h

theorem fullList_length (r : RunSet) (c : Fin 4) : (r.fullList c).length ≤ 2 := by
  have nodup : (r.fullList c).Nodup := (fullList_ordered r c).imp fun h e => h.1 e.symm
  simpa using nodup.length_le_card

/-- No more than 96 stages are reached: 12 in each of two contexts of each of four chains (R5). -/
theorem places_length (r : RunSet) (h : ∀ (c : Fin 4) (x : Fin 2), r.ctxs[c][x].stages.length ≤ 12) :
    r.places.length ≤ 96 := by
  have ofChain (c : Fin 4) : ((r.fullList c).flatMap fun x =>
      (List.range r.ctxs[c][x].stages.length).reverse.map fun i => (⟨c, x, i⟩ : Place)).length ≤ 24 := by
    rw [List.length_flatMap]
    simp only [List.length_map, List.length_reverse, List.length_range]
    have sum := List.sum_le_card_nsmul ((r.fullList c).map fun x => r.ctxs[c][x].stages.length) 12
      (List.forall_mem_map.mpr fun x _ => h c x)
    have two := fullList_length r c
    rw [List.length_map, smul_eq_mul] at sum
    omega
  have h3 := ofChain 3
  have h2 := ofChain 2
  have h1 := ofChain 1
  have h0 := ofChain 0
  simp only [RunSet.places, List.flatMap_cons, List.flatMap_nil, List.length_append, List.length_nil]
  omega

/-! #### A change of one stage -/

theorem ctx_modify (f : Stage → Stage) (p : Place) (r : RunSet) (c : Fin 4) (x : Fin 2) :
    (r.modify f p).ctxs[c][x] = { r.ctxs[c][x] with
      stages := if c = p.chain ∧ x = p.ctx then r.ctxs[c][x].stages.modify p.stage f else r.ctxs[c][x].stages } := by
  unfold RunSet.modify
  dsimp only
  rw [setCtx_get]
  split
  · rename_i h; obtain ⟨rfl, rfl⟩ := h; rfl
  · rfl

theorem stage_modify (f : Stage → Stage) (p q : Place) (r : RunSet) :
    (r.modify f p).stage? q = if q = p then (r.stage? p).map f else r.stage? q := by
  unfold RunSet.stage?
  rw [ctx_modify]
  dsimp only
  by_cases here : q.chain = p.chain ∧ q.ctx = p.ctx
  · rw [if_pos here, List.getElem?_modify]
    by_cases index : p.stage = q.stage
    · have same : q = p := by cases p; cases q; simp_all
      subst same
      simp
    · have other : q ≠ p := fun e => index (e ▸ rfl)
      simp [index, other]
  · have other : q ≠ p := fun e => here (e ▸ ⟨rfl, rfl⟩)
    rw [if_neg here, if_neg other]

theorem places_modify (f : Stage → Stage) (p : Place) (r : RunSet) : (r.modify f p).places = r.places := by
  have length (c : Fin 4) (x : Fin 2) : (r.modify f p).ctxs[c][x].stages.length = r.ctxs[c][x].stages.length := by
    rw [ctx_modify]; dsimp only; split <;> simp
  have state (c : Fin 4) (x : Fin 2) : (r.modify f p).ctxs[c][x].state = r.ctxs[c][x].state := by rw [ctx_modify]
  have list (c : Fin 4) : (r.modify f p).fullList c = r.fullList c := by
    unfold RunSet.fullList Ctx.held
    simp only [state]
    rfl
  simp only [RunSet.places, list, length]

/-- The number of steps that are left to a pass, where a place gives so many. -/
def stepsLeft (weight : Place → Nat) (r : RunSet) : Nat := (r.places.map weight).sum

theorem stepsLeft_modify (w v : Place → Nat) (f : Stage → Stage) (p : Place) (r : RunSet) (mem : p ∈ r.places)
    (less : v p < w p) (same : ∀ q : Place, q ≠ p → v q = w q) : stepsLeft v (r.modify f p) < stepsLeft w r := by
  unfold stepsLeft
  rw [places_modify]
  refine List.sum_lt_sum _ _ (fun q _ => ?_) ⟨p, mem, less⟩
  by_cases e : q = p
  · exact e ▸ le_of_lt less
  · exact le_of_eq (same q e)

theorem weight_eq_zero {w : Place → Nat} {r : RunSet} (h : stepsLeft w r = 0) {p : Place} {st : Stage}
    (reached : Reached r p st) : w p = 0 :=
  List.sum_eq_zero_iff.mp h _ (List.mem_map_of_mem ((mem_places r p).mpr ⟨st, reached⟩))

theorem stepsLeft_le (w : Place → Nat) (r : RunSet) (n : Nat) (h : ∀ p : Place, w p ≤ n)
    (stages : ∀ (c : Fin 4) (x : Fin 2), r.ctxs[c][x].stages.length ≤ 12) : stepsLeft w r ≤ 96 * n := by
  have sum := List.sum_le_card_nsmul (r.places.map w) n (by simpa using fun p _ => h p)
  rw [List.length_map, smul_eq_mul] at sum
  exact sum.trans (Nat.mul_le_mul_right n (places_length r stages))

/-! ### Pass 1 (R156) -/

theorem stage?_of_reached {r : RunSet} {p : Place} {st : Stage} (h : Reached r p st) : r.stage? p = some st := h.1

theorem isShaper_iff (r : StageRecord) : r.isShaper = true ↔ r.params.kind = 4 := by
  unfold StageRecord.isShaper
  split
  · rename_i h; simp [h, StageParams.kind]
  · rename_i h
    cases e : r.params with
    | shaper a b c d => exact absurd e (h a b c d)
    | _ => simp [StageParams.kind]

theorem halvable_of_canHalve {r : RunSet} {p : Place} {st : Stage} (h : CanHalve r p st) :
    r.halvable p = st.effective.val ∧ 0 < st.effective.val := by
  obtain ⟨reached, kind, bypass, large⟩ := h
  refine ⟨by simp [RunSet.halvable, stage?_of_reached reached, (isShaper_iff _).mpr kind, bypass], ?_⟩
  by_contra zero
  simp [oversampling, Nat.eq_zero_of_not_pos zero] at large

theorem canHalve_of_halvable {r : RunSet} {p : Place} {st : Stage} (reached : Reached r p st)
    (h : r.halvable p ≠ 0) : CanHalve r p st := by
  simp only [RunSet.halvable, stage?_of_reached reached] at h
  split at h
  · rename_i cond
    simp only [Bool.and_eq_true, Bool.not_eq_true', isShaper_iff] at cond
    exact ⟨reached, cond.1, cond.2, Nat.one_lt_two_pow h⟩
  · exact absurd rfl h

theorem oversampling_le_iff (a b : Fin 4) : oversampling a ≤ oversampling b ↔ a.val ≤ b.val :=
  Nat.pow_le_pow_iff_right (by omega)

/-- The largest value over a list, as the model takes it. -/
def largestOf (f : Place → Nat) (l : List Place) : Nat := l.foldr (fun p m => max (f p) m) 0

theorem le_largestOf (f : Place → Nat) (l : List Place) (p : Place) (h : p ∈ l) : f p ≤ largestOf f l := by
  induction l with
  | nil => cases h
  | cons q rest ih =>
    rcases List.mem_cons.mp h with rfl | h
    · exact le_max_left _ _
    · exact (ih h).trans (le_max_right _ _)

theorem largestOf_mem (f : Place → Nat) (l : List Place) : largestOf f l = 0 ∨ ∃ p ∈ l, f p = largestOf f l := by
  induction l with
  | nil => exact Or.inl rfl
  | cons q rest ih =>
    have step : largestOf f (q :: rest) = max (f q) (largestOf f rest) := rfl
    rcases le_total (largestOf f rest) (f q) with le | le
    · exact Or.inr ⟨q, List.mem_cons_self .., by rw [step, max_eq_left le]⟩
    · rw [step, max_eq_right le]
      exact ih.imp id fun ⟨p, mem, eq⟩ => ⟨p, List.mem_cons_of_mem _ mem, eq⟩

theorem nextHalving_eq (r : RunSet) : r.nextHalving = if largestOf r.halvable r.places = 0 then none
    else r.places.find? fun p => r.halvable p = largestOf r.halvable r.places := rfl

/-- Pass 1 halves where the demand is too large and there is a candidate: the one that R156 names. -/
theorem halveStep_of_nextHalving {budget : Nat} {e : Course} {p : Place} (large : budget < e.set.demand)
    (h : e.set.nextHalving = some p) : p ∈ e.set.places ∧ 0 < e.set.halvable p ∧
      HalveStep budget e { e with set := e.set.modify Stage.halve p, halvings := e.halvings + 1 } := by
  rw [nextHalving_eq] at h
  split at h
  · cases h
  · rename_i nonzero
    obtain ⟨hp, ⟨st, reached⟩, first⟩ := find_places _ _ _ h
    have largest := of_decide_eq_true hp
    have can := canHalve_of_halvable reached (largest ▸ nonzero)
    obtain ⟨code, positive⟩ := halvable_of_canHalve can
    refine ⟨(mem_places _ _).mpr ⟨st, reached⟩, code ▸ positive, large, p, st, can, fun q su hq => ?_, ?_, rfl⟩
    · obtain ⟨codeQ, -⟩ := halvable_of_canHalve hq
      have le := le_largestOf e.set.halvable _ q ((mem_places _ _).mpr ⟨su, hq.1⟩)
      refine ⟨(oversampling_le_iff _ _).mpr (by omega), fun same => first q su hq.1 (decide_eq_true ?_)⟩
      have := (oversampling_le_iff _ _).mp same.ge
      omega
    · show 2 * 2 ^ (st.effective.val - 1) = 2 ^ st.effective.val
      rw [← Nat.pow_succ', Nat.succ_eq_add_one, Nat.sub_add_cancel positive]

theorem no_halving {r : RunSet} (h : r.nextHalving = none) : ¬ ∃ (p : Place) (st : Stage), CanHalve r p st := by
  rintro ⟨p, st, can⟩
  obtain ⟨code, positive⟩ := halvable_of_canHalve can
  have le := le_largestOf r.halvable _ p ((mem_places _ _).mpr ⟨st, can.1⟩)
  have nonzero : largestOf r.halvable r.places ≠ 0 := by omega
  rw [nextHalving_eq, if_neg nonzero, List.find?_eq_none] at h
  obtain ⟨q, mem, largest⟩ := (largestOf_mem r.halvable r.places).resolve_left nonzero
  exact h q mem (decide_eq_true largest)

theorem halvable_halve (p q : Place) (r : RunSet) :
    (r.modify Stage.halve p).halvable q = if q = p then r.halvable p - 1 else r.halvable q := by
  unfold RunSet.halvable
  rw [stage_modify]
  by_cases e : q = p
  · subst e
    cases r.stage? q with
    | none => simp
    | some st => simp [Stage.halve]; split <;> rfl
  · simp [e]

theorem halvable_le_three (r : RunSet) (p : Place) : r.halvable p ≤ 3 := by
  unfold RunSet.halvable
  split
  · split <;> omega
  · omega

theorem pass1_passes (budget fuel : Nat) (e : Course) (h : stepsLeft e.set.halvable e.set ≤ fuel) :
    Passes budget HalveStep (fun r => ∃ (p : Place) (st : Stage), CanHalve r p st) e (pass1 budget fuel e) := by
  induction fuel generalizing e with
  | zero =>
    refine ⟨.refl, Or.inr fun ⟨p, st, can⟩ => ?_⟩
    have can : CanHalve e.set p st := can
    obtain ⟨code, positive⟩ := halvable_of_canHalve can
    exact absurd (weight_eq_zero (Nat.le_zero.mp h) can.1) (by omega)
  | succ fuel ih =>
    unfold pass1
    split
    · rename_i fits; exact ⟨.refl, Or.inl fits⟩
    · rename_i large
      split
      · rename_i p next
        obtain ⟨mem, positive, step⟩ := halveStep_of_nextHalving (Nat.not_le.mp large) next
        have less := stepsLeft_modify e.set.halvable (e.set.modify Stage.halve p).halvable Stage.halve p e.set mem
          (by rw [halvable_halve, if_pos rfl]; omega) (fun q ne => by rw [halvable_halve, if_neg ne])
        obtain ⟨steps, done⟩ := ih { e with set := e.set.modify Stage.halve p, halvings := e.halvings + 1 }
          (Nat.le_of_lt_succ (less.trans_le h))
        exact ⟨.head step steps, done⟩
      · rename_i none; exact ⟨.refl, Or.inr (no_halving none)⟩

/-! ### Pass 2 (R157) -/

theorem sheddable_of_canShed {r : RunSet} {p : Place} (h : CanShed r p) :
    r.sheddable p = true ∧ ∃ st : Stage, Reached r p st := by
  obtain ⟨st, reached, flag, bypass, shed⟩ := h
  exact ⟨by simp [RunSet.sheddable, stage?_of_reached reached, flag, bypass, shed], st, reached⟩

theorem canShed_of_sheddable {r : RunSet} {p : Place} {st : Stage} (reached : Reached r p st)
    (h : r.sheddable p = true) : CanShed r p := by
  simp only [RunSet.sheddable, stage?_of_reached reached, Bool.and_eq_true, Bool.not_eq_true'] at h
  exact ⟨st, reached, h.1.1, h.1.2, h.2⟩

theorem sheddable_setShed (p q : Place) (r : RunSet) :
    (r.modify Stage.setShed p).sheddable q = if q = p then false else r.sheddable q := by
  unfold RunSet.sheddable
  rw [stage_modify]
  by_cases e : q = p
  · subst e
    cases r.stage? q with
    | none => simp
    | some st => simp [Stage.setShed]
  · simp [e]

/-- Pass 2 sheds where the demand is too large and there is a candidate: the first by the keys. -/
theorem shedStep_of_find {budget : Nat} {e : Course} {p : Place} (large : budget < e.set.demand)
    (h : e.set.places.find? e.set.sheddable = some p) :
    p ∈ e.set.places ∧ e.set.sheddable p = true ∧
      ShedStep budget e { e with set := e.set.modify Stage.setShed p, sheds := e.sheds + 1 } := by
  obtain ⟨hp, ⟨st, reached⟩, first⟩ := find_places _ _ _ h
  refine ⟨(mem_places _ _).mpr ⟨st, reached⟩, hp, large, p, canShed_of_sheddable reached hp, fun q can => ?_, rfl⟩
  obtain ⟨hq, su, reachedQ⟩ := sheddable_of_canShed can
  exact first q su reachedQ hq

theorem no_shedding {r : RunSet} (h : r.places.find? r.sheddable = none) : ¬ ∃ p : Place, CanShed r p := by
  rintro ⟨p, can⟩
  obtain ⟨hp, st, reached⟩ := sheddable_of_canShed can
  exact List.find?_eq_none.mp h p ((mem_places _ _).mpr ⟨st, reached⟩) hp

/-- A candidate of pass 2 gives it one step. -/
def shedWeight (r : RunSet) (p : Place) : Nat := (r.sheddable p).toNat

theorem pass2_passes (budget fuel : Nat) (e : Course) (h : stepsLeft (shedWeight e.set) e.set ≤ fuel) :
    Passes budget ShedStep (fun r => ∃ p : Place, CanShed r p) e (pass2 budget fuel e) := by
  induction fuel generalizing e with
  | zero =>
    refine ⟨.refl, Or.inr fun ⟨p, can⟩ => ?_⟩
    have can : CanShed e.set p := can
    obtain ⟨hp, st, reached⟩ := sheddable_of_canShed can
    have zero := weight_eq_zero (Nat.le_zero.mp h) reached
    simp [shedWeight, hp] at zero
  | succ fuel ih =>
    unfold pass2
    split
    · rename_i fits; exact ⟨.refl, Or.inl fits⟩
    · rename_i large
      split
      · rename_i p next
        obtain ⟨mem, hp, step⟩ := shedStep_of_find (Nat.not_le.mp large) next
        have less := stepsLeft_modify (shedWeight e.set) (shedWeight (e.set.modify Stage.setShed p)) Stage.setShed p
          e.set mem (by simp [shedWeight, sheddable_setShed, hp])
          (fun q ne => by unfold shedWeight; rw [sheddable_setShed, if_neg ne])
        obtain ⟨steps, done⟩ := ih { e with set := e.set.modify Stage.setShed p, sheds := e.sheds + 1 }
          (Nat.le_of_lt_succ (less.trans_le h))
        exact ⟨.head step steps, done⟩
      · rename_i none; exact ⟨.refl, Or.inr (no_shedding none)⟩

/-- No stage list is longer than R5 lets it be. -/
def ShortLists (r : RunSet) : Prop := ∀ (c : Fin 4) (x : Fin 2), r.ctxs[c][x].stages.length ≤ 12

theorem shortLists_modify (f : Stage → Stage) (p : Place) (r : RunSet) (h : ShortLists r) :
    ShortLists (r.modify f p) := fun c x => by
  rw [ctx_modify]
  dsimp only
  split
  · rw [List.length_modify]; exact h c x
  · exact h c x

theorem shortLists_pass1 (budget fuel : Nat) (e : Course) (h : ShortLists e.set) :
    ShortLists (pass1 budget fuel e).set := by
  induction fuel generalizing e with
  | zero => exact h
  | succ fuel ih =>
    unfold pass1
    split
    · exact h
    · split
      · exact ih _ (shortLists_modify _ _ _ h)
      · exact h

/-- The bounds of Table 8-3 on halvings and sheds are never what ends passes 1 and 2. -/
theorem passes12_passes (budget : Nat) (r : RunSet) (h : ShortLists r) : Passes12 budget r (passes12 budget r) := by
  refine ⟨_, pass1_passes budget maxHalvings ⟨r, 0, 0, 0, 0⟩ (stepsLeft_le _ _ 3 (halvable_le_three r) h), ?_⟩
  exact pass2_passes budget maxSheds _ (stepsLeft_le _ _ 1 (fun p => Bool.toNat_le _) (shortLists_pass1 _ _ _ h))

/-! ### Passes 3 to 5 (R158 to R160)

Each tries every candidate once, in the order that its rule gives. -/

/-- One try of a pass: nothing where the demand fits or the candidate is none, and else a step of the pass that takes the
candidate and makes no other one. -/
structure Tries {α : Type} (budget : Nat) (steps : Nat → Course → Course → Prop) (candidate : RunSet → α → Prop)
    (before : α → α → Prop) (attempt : Course → α → Course) : Prop where
  fits : ∀ (e : Course) (a : α), e.set.demand ≤ budget → attempt e a = e
  skip : ∀ (e : Course) (a : α), ¬ candidate e.set a → attempt e a = e
  step : ∀ (e : Course) (a : α), budget < e.set.demand → candidate e.set a →
    (∀ b : α, candidate e.set b → ¬ before b a) → steps budget e (attempt e a)
  gone : ∀ (e : Course) (a b : α), candidate (attempt e a).set b → candidate e.set b ∧
    (budget < e.set.demand → candidate e.set a → b ≠ a)

theorem Tries.foldl_passes {α : Type} {budget : Nat} {steps : Nat → Course → Course → Prop}
    {candidate : RunSet → α → Prop} {before : α → α → Prop} {attempt : Course → α → Course}
    (T : Tries budget steps candidate before attempt) (irrefl : ∀ a : α, ¬ before a a) (after : List α) :
    ∀ (e : Course), after.Pairwise (fun a b => ¬ before b a) →
      (e.set.demand ≤ budget ∨ ∀ a : α, candidate e.set a → a ∈ after) →
      Passes budget steps (fun r => ∃ a : α, candidate r a) e (after.foldl attempt e) := by
  induction after with
  | nil =>
    intro e _ left
    exact ⟨.refl, left.imp id fun none ⟨a, ha⟩ => List.not_mem_nil (none a ha)⟩
  | cons a rest ih =>
    intro e sorted left
    obtain ⟨first, sortedRest⟩ := List.pairwise_cons.mp sorted
    rw [List.foldl_cons]
    by_cases fits : e.set.demand ≤ budget
    · rw [T.fits e a fits]
      exact ih e sortedRest (Or.inl fits)
    · have left := left.resolve_left fits
      by_cases can : candidate e.set a
      · have step := T.step e a (Nat.not_le.mp fits) can fun b hb => by
          rcases List.mem_cons.mp (left b hb) with rfl | mem
          · exact irrefl b
          · exact first b mem
        obtain ⟨course, done⟩ := ih (attempt e a) sortedRest (Or.inr fun b hb => by
          obtain ⟨was, other⟩ := T.gone e a b hb
          exact (List.mem_cons.mp (left b was)).resolve_left (other (Nat.not_le.mp fits) can))
        exact ⟨.head step course, done⟩
      · rw [T.skip e a can]
        exact ih e sortedRest (Or.inr fun b hb =>
          (List.mem_cons.mp (left b hb)).resolve_left fun same => can (same ▸ hb))

/-! #### Pass 3 -/

/-- A candidate of pass 3. -/
def Spills (r : RunSet) (cx : Fin 4 × Fin 2) : Prop := r.ctxs[cx.1][cx.2].state = .spilling

theorem ctx_cut (r : RunSet) (c : Fin 4) (x : Fin 2) (d : Fin 4) (y : Fin 2) :
    (r.cut c x).ctxs[d][y] = if d = c ∧ y = x then r.ctxs[c][x].toCutting else r.ctxs[d][y] := setCtx_get _ _ _ _ _ _

theorem pass3_tries (budget : Nat) : Tries budget TailCutStep Spills
    (fun p q => q.1 < p.1 ∨ q.1 = p.1 ∧ q.2 < p.2) (pass3At budget) where
  fits e cx fits := if_pos fits
  skip e cx none := by
    unfold pass3At
    split
    · rfl
    · exact if_neg none
  step e cx large spills first := by
    obtain ⟨c, x⟩ := cx
    refine ⟨large, c, x, spills, fun d y other => first (d, y) other, ?_⟩
    exact (if_neg (Nat.not_le.mpr large)).trans (if_pos spills)
  gone e cx dy spills := by
    unfold pass3At at spills
    split at spills
    · rename_i fits; exact ⟨spills, fun large => absurd fits (Nat.not_le.mpr large)⟩
    · split at spills
      · unfold Spills at spills ⊢
        dsimp only at spills
        rw [ctx_cut] at spills
        split at spills
        · cases spills
        · rename_i other
          exact ⟨spills, fun _ _ same => other (same ▸ ⟨rfl, rfl⟩)⟩
      · rename_i none; exact ⟨spills, fun _ can => absurd can none⟩

theorem pass3_passes (budget : Nat) (e : Course) :
    Passes budget TailCutStep (fun r => ∃ (c : Fin 4) (x : Fin 2), r.ctxs[c][x].state = .spilling) e
      (cutOrder.foldl (pass3At budget) e) := by
  have every : ∀ cx : Fin 4 × Fin 2, cx ∈ cutOrder := by decide
  obtain ⟨course, done⟩ := (pass3_tries budget).foldl_passes (by simp) cutOrder e (by decide)
    (Or.inr fun cx _ => every cx)
  exact ⟨course, done.imp id fun none ⟨c, x, spills⟩ => none ⟨(c, x), spills⟩⟩

/-! #### Pass 4 -/

theorem dipsNow_iff (r : RunSet) (c : Fin 4) :
    DipsNow r c ↔ (r.fades[c].k = 0 && r.fades[c].kind.canDip) = true := by
  unfold DipsNow
  cases r.fades[c].kind <;> simp [FadeKind.canDip]

theorem longFade_iff (r : RunSet) (c : Fin 4) (x : Fin 2) (left : Fade) (other : ¬ DipsNow r c) :
    LongFade r c x left ↔ longFade r.fades[c] r.ctxs[c] = some (x, left) := by
  unfold LongFade longFade
  generalize fadingCtx r.ctxs[c] = fading
  generalize liveCtx r.ctxs[c] = live
  cases r.fades[c].kind <;> cases fading <;> cases live <;> simp [other, eq_comm (a := left)]

theorem pass4At_dip {budget : Nat} {e : Course} {c : Fin 4} (large : budget < e.set.demand) (h : DipsNow e.set c) :
    pass4At budget e c = { e with
      set := { e.set with fades := upd e.set.fades c { e.set.fades[c] with kind := e.set.fades[c].kind.asDip } }
      dips := e.dips + 1 } :=
  (if_neg (Nat.not_le.mpr large)).trans (if_pos ((dipsNow_iff _ _).mp h))

theorem pass4At_cut {budget : Nat} {e : Course} {c : Fin 4} {x : Fin 2} {left : Fade} (large : budget < e.set.demand)
    (h : LongFade e.set c x left) : pass4At budget e c =
      { e with set := { e.set.cut c x with fades := upd e.set.fades c left }, cuts := e.cuts + 1 } := by
  obtain ⟨other, -⟩ := id h
  refine (if_neg (Nat.not_le.mpr large)).trans ((if_neg fun now => other ((dipsNow_iff _ _).mpr now)).trans ?_)
  rw [(longFade_iff _ _ _ _ other).mp h]
  rfl

theorem pass4At_skip {budget : Nat} {e : Course} {c : Fin 4} (h : ¬ Qualifies e.set c) : pass4At budget e c = e := by
  have now : ¬ DipsNow e.set c := fun now => h (Or.inl now)
  have none : longFade e.set.fades[c] e.set.ctxs[c] = none := by
    cases eq : longFade e.set.fades[c] e.set.ctxs[c] with
    | none => rfl
    | some r => exact absurd (Or.inr ⟨r.1, r.2, (longFade_iff _ _ _ _ now).mpr eq⟩) h
  unfold pass4At
  dsimp only
  rw [if_neg fun dips => now ((dipsNow_iff _ _).mpr dips), none]
  exact ite_self _

theorem qualifies_congr {r t : RunSet} {d : Fin 4} (fades : t.fades[d] = r.fades[d]) (ctxs : t.ctxs[d] = r.ctxs[d]) :
    Qualifies t d ↔ Qualifies r d := by
  unfold Qualifies LongFade DipsNow
  rw [fades, ctxs]

/-- A fade at NONE, a dip, and one that is past its first frame and is no CROSS or OUT do not qualify. -/
theorem not_qualifies {r : RunSet} {c : Fin 4} (cross : r.fades[c].kind ≠ .cross) (out : r.fades[c].kind ≠ .fadeOut)
    (fadeIn : r.fades[c].k = 0 → r.fades[c].kind ≠ .fadeIn) : ¬ Qualifies r c := by
  rintro (⟨k, kind⟩ | ⟨x, left, -, -, kind⟩)
  · exact kind.elim cross fun kind => kind.elim (fadeIn k) out
  · exact kind.elim (fun kind => cross kind.1) fun kind => out kind.1

theorem upd_self {α : Type} (v : Vector α 4) (c : Fin 4) (a : α) : (upd v c a)[c] = a := upd_get_self v c a

theorem upd_other {α : Type} (v : Vector α 4) {c d : Fin 4} (a : α) (ne : d ≠ c) : (upd v c a)[d] = v[d] :=
  upd_get_ne v c a d d.isLt fun e => ne (Fin.ext e.symm)

theorem asDip_ne (k : FadeKind) : k.asDip ≠ .cross ∧ k.asDip ≠ .fadeOut ∧ k.asDip ≠ .fadeIn := by cases k <;> decide

/-- The fade that a step of pass 4 leaves does not qualify again, and the other chains stand. -/
theorem pass4At_leaves {budget : Nat} {e : Course} {c : Fin 4} (large : budget < e.set.demand)
    (can : Qualifies e.set c) : ¬ Qualifies (pass4At budget e c).set c ∧ ∀ d : Fin 4, d ≠ c →
      (pass4At budget e c).set.fades[d] = e.set.fades[d] ∧ (pass4At budget e c).set.ctxs[d] = e.set.ctxs[d] := by
  rcases can with now | ⟨x, left, long⟩
  · rw [pass4At_dip large now]
    refine ⟨?_, fun d ne => ⟨upd_other _ _ ne, rfl⟩⟩
    obtain ⟨cross, out, fadeIn⟩ := asDip_ne e.set.fades[c].kind
    refine not_qualifies ?_ ?_ fun _ => ?_
    · dsimp only; rw [upd_self]; exact cross
    · dsimp only; rw [upd_self]; exact out
    · dsimp only; rw [upd_self]; exact fadeIn
  · rw [pass4At_cut large long]
    refine ⟨?_, fun d ne => ⟨upd_other _ _ ne, upd_other _ _ ne⟩⟩
    obtain ⟨other, -, ⟨kind, -, rfl⟩ | ⟨-, -, rfl⟩⟩ := long
    · have started : e.set.fades[c].k ≠ 0 := fun zero => other ⟨zero, Or.inl kind⟩
      exact not_qualifies (by simp) (by simp) (by simpa using started)
    · exact not_qualifies (by simp [Fade.rest]) (by simp [Fade.rest]) (by simp [Fade.rest])

theorem pass4_tries (budget : Nat) : Tries budget FadeStep Qualifies (fun p q => q < p) (pass4At budget) where
  fits e c fits := if_pos fits
  skip e c none := pass4At_skip none
  step e c large can first := by
    refine ⟨large, c, fun d lt other => first d other lt, ?_⟩
    rcases can with now | ⟨x, left, long⟩
    · exact Or.inl ⟨now, pass4At_dip large now⟩
    · exact Or.inr ⟨x, left, long, pass4At_cut large long⟩
  gone e c d after := by
    by_cases fits : e.set.demand ≤ budget
    · have same : pass4At budget e c = e := if_pos fits
      exact ⟨same ▸ after, fun large => absurd fits (Nat.not_le.mpr large)⟩
    · have large := Nat.not_le.mp fits
      by_cases can : Qualifies e.set c
      · obtain ⟨gone, others⟩ := pass4At_leaves large can
        have ne : d ≠ c := fun same => gone (same ▸ after)
        exact ⟨(qualifies_congr (others d ne).1 (others d ne).2).mp after, fun _ _ => ne⟩
      · rw [pass4At_skip can] at after
        exact ⟨after, fun _ now => absurd now can⟩

theorem pass4_passes (budget : Nat) (e : Course) :
    Passes budget FadeStep (fun r => ∃ c : Fin 4, Qualifies r c) e (chainsDown.foldl (pass4At budget) e) :=
  (pass4_tries budget).foldl_passes (fun _ => lt_irrefl _) chainsDown e (by decide)
    (Or.inr fun c _ => (by decide : ∀ c : Fin 4, c ∈ chainsDown) c)

/-! #### Pass 5 -/

/-- A chain that pass 5 can still bypass. -/
def Unbypassed (r : RunSet) (c : Fin 4) : Prop := r.bypass[c] = false

theorem bypass_drop (c : Fin 4) (x : Fin 2) (r : RunSet) : (RunSet.drop c x r).bypass = r.bypass := by
  unfold RunSet.drop
  dsimp only
  split <;> rfl

theorem pass5At_large {budget : Nat} {e : Course} (c : Fin 4) (large : budget < e.set.demand) :
    pass5At budget e c =
      { e with set := RunSet.drop c 1 (RunSet.drop c 0 { e.set with bypass := upd e.set.bypass c true }) } :=
  if_neg (Nat.not_le.mpr large)

theorem bypass_pass5At {budget : Nat} {e : Course} {c : Fin 4} (large : budget < e.set.demand) :
    (pass5At budget e c).set.bypass = upd e.set.bypass c true := by
  rw [pass5At_large c large, bypass_drop, bypass_drop]

/-- The tries of pass 5 begin with no chain marked, and each marks the highest chain without a mark. -/
theorem pass5_foldl (budget : Nat) (after : List (Fin 4)) : ∀ (e : Course), after.Pairwise (fun c d => d < c) →
    (∀ c : Fin 4, Unbypassed e.set c ↔ c ∈ after) →
    Passes budget BypassStep (fun r => ∃ c : Fin 4, r.bypass[c] = false) e (after.foldl (pass5At budget) e) := by
  induction after with
  | nil => exact fun e _ left => ⟨.refl, Or.inr fun ⟨c, hc⟩ => List.not_mem_nil ((left c).mp hc)⟩
  | cons c rest ih =>
    intro e sorted left
    obtain ⟨first, sortedRest⟩ := List.pairwise_cons.mp sorted
    by_cases fits : e.set.demand ≤ budget
    · have same : (c :: rest).foldl (pass5At budget) e = e :=
        List.foldlRecOn (motive := fun t => t = e) _ _ rfl fun t ht d _ => by subst ht; exact if_pos fits
      rw [same]
      exact ⟨.refl, Or.inl fits⟩
    · have large := Nat.not_le.mp fits
      have step : BypassStep budget e (pass5At budget e c) := by
        refine ⟨large, c, (left c).mpr (List.mem_cons_self ..), fun d lt => ?_, pass5At_large c large⟩
        by_contra unmarked
        rcases List.mem_cons.mp ((left d).mp (Bool.eq_false_of_not_eq_true unmarked)) with rfl | mem
        · exact lt_irrefl _ lt
        · exact lt_asymm lt (first d mem)
      obtain ⟨course, done⟩ := ih (pass5At budget e c) sortedRest fun d => by
        unfold Unbypassed
        rw [bypass_pass5At large]
        by_cases same : d = c
        · subst same
          simpa using fun mem => lt_irrefl _ (first d mem)
        · rw [upd_other _ _ same]
          exact (left d).trans (by simp [same])
      exact ⟨.head step course, done⟩

theorem pass5_passes (budget : Nat) (e : Course) (h : e.set.bypass = Vector.replicate 4 false) :
    Passes budget BypassStep (fun r => ∃ c : Fin 4, r.bypass[c] = false) e (chainsDown.foldl (pass5At budget) e) :=
  pass5_foldl budget chainsDown e (by decide) fun c => by
    simpa [Unbypassed, h] using (by decide : ∀ c : Fin 4, c ∈ chainsDown) c

/-! ### The five passes -/

theorem bypass_pass1 (budget fuel : Nat) (e : Course) : (pass1 budget fuel e).set.bypass = e.set.bypass := by
  induction fuel generalizing e with
  | zero => rfl
  | succ fuel ih =>
    unfold pass1
    split
    · rfl
    · split
      · exact ih _
      · rfl

theorem bypass_pass2 (budget fuel : Nat) (e : Course) : (pass2 budget fuel e).set.bypass = e.set.bypass := by
  induction fuel generalizing e with
  | zero => rfl
  | succ fuel ih =>
    unfold pass2
    split
    · rfl
    · split
      · exact ih _
      · rfl

theorem bypass_pass3At (budget : Nat) (e : Course) (cx : Fin 4 × Fin 2) :
    (pass3At budget e cx).set.bypass = e.set.bypass := by
  unfold pass3At
  split
  · rfl
  · split <;> rfl

theorem bypass_pass4At (budget : Nat) (e : Course) (c : Fin 4) : (pass4At budget e c).set.bypass = e.set.bypass := by
  unfold pass4At
  dsimp only
  split
  · rfl
  · split
    · rfl
    · split <;> rfl

/-- The course before pass 5. -/
def passes14 (budget : Nat) (r : RunSet) : Course :=
  chainsDown.foldl (pass4At budget) (cutOrder.foldl (pass3At budget) (passes12 budget r))

/-- Passes 1 to 4 set no chain's bypass mark. -/
theorem bypass_passes14 (budget : Nat) (r : RunSet) : (passes14 budget r).set.bypass = r.bypass := by
  have twelve : (passes12 budget r).set.bypass = r.bypass := (bypass_pass2 _ _ _).trans (bypass_pass1 _ _ _)
  have three : (cutOrder.foldl (pass3At budget) (passes12 budget r)).set.bypass = r.bypass :=
    List.foldlRecOn (motive := fun e => e.set.bypass = r.bypass) _ _ twelve fun e he cx _ =>
      (bypass_pass3At budget e cx).trans he
  exact List.foldlRecOn (motive := fun e => e.set.bypass = r.bypass) _ _ three fun e he c _ =>
    (bypass_pass4At budget e c).trans he

theorem passes_eq (budget : Nat) (r : RunSet) :
    passes budget r = chainsDown.foldl (pass5At budget) (passes14 budget r) := rfl

theorem passes_passes15 (budget : Nat) (r : RunSet) (unmarked : r.bypass = Vector.replicate 4 false)
    (h : ShortLists r) : Passes15 budget r (passes budget r) := by
  rw [passes_eq]
  exact ⟨_, _, passes14 budget r, passes12_passes budget r h, pass3_passes budget _, pass4_passes budget _,
    pass5_passes budget _ ((bypass_passes14 budget r).trans unmarked)⟩

theorem demand_of_bypassed (r : RunSet) (h : ∀ c : Fin 4, r.bypass[c] = true) : r.demand = 0 := by
  have none (c : Fin 4) : r.chainCost c = 0 := if_pos (h c)
  simp [RunSet.demand, none]

/-- The passes meet the budget: at the latest when every chain is bypassed (R155, R160). -/
theorem demand_passes (budget : Nat) (r : RunSet) (unmarked : r.bypass = Vector.replicate 4 false) :
    (passes budget r).set.demand ≤ budget := by
  rw [passes_eq]
  obtain ⟨-, fits | all⟩ := pass5_passes budget (passes14 budget r) ((bypass_passes14 budget r).trans unmarked)
  · exact fits
  · rw [demand_of_bypassed _ fun c => Bool.eq_true_of_not_eq_false fun e => all ⟨c, e⟩]
    exact Nat.zero_le _

end Sys2Proof.Machine

namespace Sys2Proof.Machine

set_option Elab.async false

/-! ### An evaluation where no fade and no tail runs

Passes 1, 2 and 5 then are all that can act, and they change marks alone: taken back to its requested state, the running set
is what it was. -/

theorem mapCtxs_get (f : Ctx → Ctx) (v : Vector (Vector Ctx 2) 4) (c : Fin 4) (x : Fin 2) :
    (mapCtxs f v)[c][x] = f v[c][x] := by simp [mapCtxs]

theorem mapCtxs_congr (f : Ctx → Ctx) {v w : Vector (Vector Ctx 2) 4}
    (h : ∀ (c : Fin 4) (x : Fin 2), f v[c][x] = f w[c][x]) : mapCtxs f v = mapCtxs f w := by
  unfold mapCtxs
  congr 1
  funext c
  congr 1
  funext x
  exact h c x

theorem setCtx_eq_self (v : Vector (Vector Ctx 2) 4) (c : Fin 4) (x : Fin 2) : setCtx v c x v[c][x] = v := by
  simp [setCtx, upd]

/-- Every context is LIVE or empty, and no fade runs. -/
structure Resting (r : RunSet) : Prop where
  ctxs : ∀ (c : Fin 4) (x : Fin 2), r.ctxs[c][x].state = .live ∨ r.ctxs[c][x] = Ctx.empty
  fades : ∀ c : Fin 4, r.fades[c] = Fade.rest

/-- The course has cut nothing and dipped nothing, and all it has changed is marks. -/
structure MarksOnly (start : RunSet) (e : Course) : Prop where
  set : e.set.atRequest = start
  dips : e.dips = 0
  cuts : e.cuts = 0

theorem atRequest_idem (k : Ctx) : k.atRequest.atRequest = k.atRequest := by
  simp [Ctx.atRequest, Stage.atRequest, Function.comp_def]

theorem runSet_atRequest_idem (r : RunSet) : r.atRequest.atRequest = r.atRequest := by
  have same : mapCtxs Ctx.atRequest (mapCtxs Ctx.atRequest r.ctxs) = mapCtxs Ctx.atRequest r.ctxs :=
    mapCtxs_congr _ fun c x => by rw [mapCtxs_get, atRequest_idem]
  unfold RunSet.atRequest
  dsimp only
  rw [same]

theorem empty_of_atRequest {k : Ctx} (h : k.atRequest = Ctx.empty) : k = Ctx.empty := by
  obtain ⟨state, scene, pan, stages, a, b, c, d, e⟩ := k
  simp_all [Ctx.atRequest, Ctx.empty]

/-- A change of marks at one place is taken back by the requested state. -/
theorem atRequest_modify (f : Stage → Stage) (hf : ∀ st : Stage, (f st).atRequest = st.atRequest) (p : Place)
    (r : RunSet) : (r.modify f p).atRequest = r.atRequest := by
  have stages (l : List Stage) (i : Nat) : (l.modify i f).map Stage.atRequest = l.map Stage.atRequest := by
    refine List.ext_getElem? fun j => ?_
    simp only [List.getElem?_map, List.getElem?_modify]
    cases l[j]? with
    | none => rfl
    | some st => simp only [Option.map_some]; split <;> simp [hf]
  have same : mapCtxs Ctx.atRequest (r.modify f p).ctxs = mapCtxs Ctx.atRequest r.ctxs := mapCtxs_congr _ fun c x => by
    rw [ctx_modify]
    unfold Ctx.atRequest
    dsimp only
    split
    · rw [stages]
    · rfl
  unfold RunSet.atRequest
  rw [same]
  rfl

section
variable {start : RunSet} {budget : Nat} {e : Course}

theorem MarksOnly.pass1 (fuel : Nat) (h : MarksOnly start e) : MarksOnly start (pass1 budget fuel e) := by
  induction fuel generalizing e with
  | zero => exact h
  | succ fuel ih =>
    unfold Machine.pass1
    split
    · exact h
    · split
      · exact ih ⟨(atRequest_modify Stage.halve (fun _ => rfl) _ _).trans h.set, h.dips, h.cuts⟩
      · exact h

theorem MarksOnly.pass2 (fuel : Nat) (h : MarksOnly start e) : MarksOnly start (pass2 budget fuel e) := by
  induction fuel generalizing e with
  | zero => exact h
  | succ fuel ih =>
    unfold Machine.pass2
    split
    · exact h
    · split
      · exact ih ⟨(atRequest_modify Stage.setShed (fun _ => rfl) _ _).trans h.set, h.dips, h.cuts⟩
      · exact h

theorem MarksOnly.ctx (h : MarksOnly start e) (c : Fin 4) (x : Fin 2) : e.set.ctxs[c][x].atRequest = start.ctxs[c][x] := by
  rw [← h.set]
  exact (mapCtxs_get _ _ _ _).symm

/-- A running set of which the requested state rests, rests itself. -/
theorem MarksOnly.resting (h : MarksOnly start e) (rest : Resting start) : Resting e.set where
  ctxs c x := by
    have same := h.ctx c x
    rcases rest.ctxs c x with live | empty
    · exact Or.inl ((congrArg Ctx.state same).trans live)
    · exact Or.inr (empty_of_atRequest (same.trans empty))
  fades c := by
    have same : e.set.atRequest.fades = start.fades := congrArg RunSet.fades h.set
    change e.set.fades = start.fades at same
    rw [same]
    exact rest.fades c

theorem pass3At_of_resting (rest : Resting e.set) (cx : Fin 4 × Fin 2) : pass3At budget e cx = e :=
  (pass3_tries budget).skip e cx fun spills => by
    have spills : e.set.ctxs[cx.1][cx.2].state = .spilling := spills
    rcases rest.ctxs cx.1 cx.2 with live | empty
    · exact nomatch live.symm.trans spills
    · rw [empty] at spills; cases spills

theorem pass4At_of_resting (rest : Resting e.set) (c : Fin 4) : pass4At budget e c = e :=
  pass4At_skip (not_qualifies (by simp [rest.fades c, Fade.rest]) (by simp [rest.fades c, Fade.rest])
    (by simp [rest.fades c, Fade.rest]))

theorem drop_of_resting {r : RunSet} (rest : Resting r) (c : Fin 4) (x : Fin 2) : RunSet.drop c x r = r := by
  unfold RunSet.drop
  dsimp only
  split
  · rfl
  · rename_i notLive
    have empty := (rest.ctxs c x).resolve_left notLive
    have ctxs : setCtx r.ctxs c x Ctx.empty = r.ctxs := by
      conv_lhs => rw [← empty]
      exact setCtx_eq_self r.ctxs c x
    rw [ctxs, empty]
    rfl

theorem MarksOnly.pass5At (rest : Resting start) (h : MarksOnly start e) (c : Fin 4) :
    MarksOnly start (pass5At budget e c) := by
  by_cases fits : e.set.demand ≤ budget
  · have same : Machine.pass5At budget e c = e := if_pos fits
    rw [same]
    exact h
  · rw [pass5At_large c (Nat.not_le.mp fits)]
    obtain ⟨ctxs, fades⟩ := h.resting rest
    have marked : Resting { e.set with bypass := upd e.set.bypass c true } := ⟨ctxs, fades⟩
    rw [drop_of_resting marked, drop_of_resting marked]
    exact ⟨h.set, h.dips, h.cuts⟩

end

/-- The passes on a resting set change marks alone. -/
theorem passes_marksOnly (budget : Nat) (start : RunSet) (rest : Resting start) (requested : start.atRequest = start) :
    MarksOnly start (passes budget start) := by
  have begun : MarksOnly start ⟨start, 0, 0, 0, 0⟩ := ⟨requested, rfl, rfl⟩
  have twelve : MarksOnly start (passes12 budget start) := (begun.pass1 maxHalvings).pass2 maxSheds
  have three : MarksOnly start (cutOrder.foldl (pass3At budget) (passes12 budget start)) :=
    List.foldlRecOn (motive := MarksOnly start) _ _ twelve fun e he cx _ => by
      rw [pass3At_of_resting (he.resting rest)]; exact he
  have four : MarksOnly start (passes14 budget start) :=
    List.foldlRecOn (motive := MarksOnly start) _ _ three fun e he c _ => by
      rw [pass4At_of_resting (he.resting rest)]; exact he
  rw [passes_eq]
  exact List.foldlRecOn (motive := MarksOnly start) _ _ four fun e he c _ => he.pass5At rest c

/-! #### What an evaluation leaves -/

/-- The course of the evaluation that a state takes. -/
def evaluationCourse (s : State) : Course := passes s.budget s.runSet.atRequest

/-- The record of the governor after an evaluation. -/
def evaluatedBgv (e : Course) (s : State) : Bgv :=
  { s.bgv with
    bypass := e.set.bypass, halvings := e.halvings, sheds := e.sheds
    dips := addCapped s.bgv.dips e.dips, cuts := addCapped s.bgv.cuts e.cuts
    requestedDemand := s.runSet.atRequest.demand, demand := e.set.demand, evaluate := false }

/-- An evaluation has changed what GOVERN tells (R162). -/
def governTold (e : Course) (s : State) : Bool :=
  e.halvings ≠ s.bgv.halvings || e.sheds ≠ s.bgv.sheds || e.set.bypass ≠ s.bgv.bypass || 0 < e.dips || 0 < e.cuts

/-- The state that an evaluation leaves but for GOVERN. -/
def evaluated (e : Course) (s : State) : State :=
  writeGovernorBox { s with
    scc := { s.scc with ctxs := e.set.ctxs, fades := e.set.fades }
    dpl := { s.dpl with free := e.set.free }
    bgv := evaluatedBgv e s }

theorem evaluateMarks_eq (s : State) : evaluateMarks s =
    raiseIf (governTold (evaluationCourse s) s) .govern (evaluated (evaluationCourse s) s) := by
  unfold evaluateMarks evaluated evaluatedBgv governTold evaluationCourse
  rfl

theorem evaluationCourse_budget (s : State) : (evaluationCourse s).set.demand ≤ s.budget := by
  unfold evaluationCourse
  exact demand_passes s.budget s.runSet.atRequest rfl

theorem evaluationCourse_passes (s : State)
    (h : ∀ (c : Fin 4) (x : Fin 2), (s.scc.ctx c x).stages.length ≤ 12) :
    Passes15 s.budget s.runSet.atRequest (evaluationCourse s) :=
  passes_passes15 _ _ rfl fun c x => by
    have same : s.runSet.atRequest.ctxs[c][x] = (s.scc.ctx c x).atRequest := mapCtxs_get _ _ _ _
    rw [same]
    simpa [Ctx.atRequest] using h c x

end Sys2Proof.Machine

namespace Sys2Proof.Machine

set_option Elab.async false

/-! ### The outbound lane (R185, R192)

The queue and the pending set change by the classes that join and by nothing else of the state. -/

/-- What a class that joins the pending set reads and changes. -/
structure Lane where
  queue : List (List Word)
  notices : BitVec 8
  mask : BitVec 8
  headSent : Bool

def State.lane (s : State) : Lane := ⟨s.lct.queue, s.lct.notices, s.lct.mask, s.lct.headSent⟩

/-- A class joins, behind a notice that is due. -/
def Lane.raise (k : NoticeClass) (l : Lane) : Lane :=
  if l.queue.isEmpty && l.notices &&& l.mask ≠ 0 then
    { l with
      queue := l.queue ++ [parcelWords noticeKind 0 [classWord (l.notices &&& l.mask)]]
      notices := (l.notices &&& ~~~l.mask) ||| k.bit, headSent := false }
  else { l with notices := l.notices ||| k.bit }

def Lane.raiseIf (p : Bool) (k : NoticeClass) (l : Lane) : Lane := if p then l.raise k else l

/-- A parcel of which words have left is gone. -/
def Lane.whole (l : Lane) : Lane := { l with queue := if l.headSent then l.queue.drop 1 else l.queue, headSent := false }

@[simp] theorem lane_raise (k : NoticeClass) (s : State) : (raise k s).lane = s.lane.raise k := by
  unfold raise noticeIfDue Lane.raise State.lane noticeDue noticeClasses
  split <;> rfl

@[simp] theorem lane_raiseIf (p : Bool) (k : NoticeClass) (s : State) : (raiseIf p k s).lane = s.lane.raiseIf p k := by
  cases p
  · rfl
  · exact lane_raise k s

theorem lane_dropPartial (s : State) : (dropPartial s).lane = s.lane.whole := by
  cases h : s.lct.headSent <;> simp [dropPartial, State.lane, Lane.whole, h]

theorem Lane.raiseIf_headSent (p : Bool) (k : NoticeClass) (l : Lane) (h : l.headSent = false) :
    (l.raiseIf p k).headSent = false := by
  unfold Lane.raiseIf Lane.raise
  split
  · split
    · rfl
    · exact h
  · exact h

/-- The two states agree in what the lane control holds apart from the lane and the mailboxes. -/
structure SameDesk (s t : State) : Prop where
  assembler : t.lct.assembler = s.lct.assembler := by rfl
  arrived : t.lct.arrived = s.lct.arrived := by rfl
  hold : t.lct.hold = s.lct.hold := by rfl
  mask : t.lct.mask = s.lct.mask := by rfl
  counters : t.lct.counters = s.lct.counters := by rfl
  showLocked : t.lct.showLocked = s.lct.showLocked := by rfl
  permit : t.lct.permit = s.lct.permit := by rfl

theorem SameDesk.trans {s t u : State} (h : SameDesk s t) (g : SameDesk t u) : SameDesk s u where
  assembler := g.assembler.trans h.assembler
  arrived := g.arrived.trans h.arrived
  hold := g.hold.trans h.hold
  mask := g.mask.trans h.mask
  counters := g.counters.trans h.counters
  showLocked := g.showLocked.trans h.showLocked
  permit := g.permit.trans h.permit

theorem sameDesk_raise (k : NoticeClass) (s : State) : SameDesk s (raise k s) := by
  unfold raise noticeIfDue
  split <;> exact {}

theorem sameDesk_raiseIf (p : Bool) (k : NoticeClass) (s : State) : SameDesk s (raiseIf p k s) := by
  cases p
  · exact {}
  · exact sameDesk_raise k s

@[simp] theorem raise_boxes (k : NoticeClass) (s : State) : (raise k s).lct.boxes = s.lct.boxes := by
  unfold raise noticeIfDue
  split <;> rfl

@[simp] theorem raiseIf_boxes (p : Bool) (k : NoticeClass) (s : State) : (raiseIf p k s).lct.boxes = s.lct.boxes := by
  cases p
  · rfl
  · exact raise_boxes k s

/-! ### The scene controller as the link enters SEARCH (R8, R53, R90) -/

/-- The two states agree in all but the scene controller, the free list, the lane and mailbox 6. -/
structure SceneOnly (s t : State) : Prop where
  lif : t.lif = s.lif := by rfl
  chp : t.chp = s.chp := by rfl
  mem : t.dpl.mem = s.dpl.mem := by rfl
  tfu : t.tfu = s.tfu := by rfl
  tun : t.tun = s.tun := by rfl
  ort : t.ort = s.ort := by rfl
  bgv : t.bgv = s.bgv := by rfl
  pending : t.pending = s.pending := by rfl
  desk : SameDesk s t := by exact {}
  boxes : t.lct.boxes = { s.lct.boxes with scene := t.lct.boxes.scene } := by rfl

theorem SceneOnly.trans {s t u : State} (h : SceneOnly s t) (g : SceneOnly t u) : SceneOnly s u where
  lif := g.lif.trans h.lif
  chp := g.chp.trans h.chp
  mem := g.mem.trans h.mem
  tfu := g.tfu.trans h.tfu
  tun := g.tun.trans h.tun
  ort := g.ort.trans h.ort
  bgv := g.bgv.trans h.bgv
  pending := g.pending.trans h.pending
  desk := h.desk.trans g.desk
  boxes := by rw [g.boxes, h.boxes]

theorem sceneOnly_endRequest (o : SceneOutcome) (r : Request) (n : Option (Fin 128)) (s : State) :
    SceneOnly s (endRequest o r n s) where
  lif := by simp
  chp := by simp
  mem := by simp
  tfu := by simp
  tun := by simp
  ort := by simp
  bgv := by simp
  pending := by simp
  desk := SameDesk.trans (t := writeSceneBox _) {} (sameDesk_raise _ _)
  boxes := by unfold endRequest; rw [raise_boxes]; rfl

/-- A context after link search. -/
def searchedCtx (f : Fade) (k : Ctx) : Ctx :=
  if staysLive f k then { k with stages := k.stages.map Stage.zero } else Ctx.empty

/-- The blocks that link search frees at a context. -/
def searchFreed (f : Fade) (k : Ctx) : List Nat := if staysLive f k then [] else k.blocks

theorem searchCtx_ctx (s : State) (cx : Fin 4 × Fin 2) (c : Fin 4) (x : Fin 2) : (searchCtx s cx).scc.ctx c x =
    if (c, x) = cx then searchedCtx s.scc.fades[c] (s.scc.ctx c x) else s.scc.ctx c x := by
  obtain ⟨d, y⟩ := cx
  simp only [Prod.mk.injEq]
  have put (k : Ctx) : (putCtx d y k s).scc.ctx c x = if c = d ∧ x = y then k else s.scc.ctx c x :=
    ctx_putCtx d y k s c x
  unfold searchCtx searchedCtx
  dsimp only
  split
  · rename_i stays
    rw [put]
    split
    · rename_i h; obtain ⟨rfl, rfl⟩ := h; rw [if_pos stays]
    · rfl
  · rename_i leaves
    refine (put Ctx.empty).trans ?_
    split
    · rename_i h; obtain ⟨rfl, rfl⟩ := h; rw [if_neg leaves]
    · rfl

theorem searchCtx_free (s : State) (cx : Fin 4 × Fin 2) : (searchCtx s cx).dpl.free.Perm
    (searchFreed s.scc.fades[cx.1] (s.scc.ctx cx.1 cx.2) ++ s.dpl.free) := by
  unfold searchCtx searchFreed
  dsimp only
  split
  · exact List.Perm.refl _
  · exact freeBlocks_perm _ _

theorem searchCtx_only (s : State) (cx : Fin 4 × Fin 2) : SceneOnly s (searchCtx s cx) ∧
    (searchCtx s cx).lct = s.lct ∧ (searchCtx s cx).scc = { s.scc with ctxs := (searchCtx s cx).scc.ctxs } := by
  unfold searchCtx
  dsimp only
  split
  · exact ⟨{}, rfl, rfl⟩
  · exact ⟨{}, rfl, rfl⟩

/-- Link search at some contexts, each of them visited once. -/
theorem foldl_searchCtx (l : List (Fin 4 × Fin 2)) : ∀ s : State, l.Nodup →
    SceneOnly s (l.foldl searchCtx s) ∧ (l.foldl searchCtx s).lct = s.lct ∧
    (l.foldl searchCtx s).scc = { s.scc with ctxs := (l.foldl searchCtx s).scc.ctxs } ∧
    (∀ (c : Fin 4) (x : Fin 2), (l.foldl searchCtx s).scc.ctx c x =
      if (c, x) ∈ l then searchedCtx s.scc.fades[c] (s.scc.ctx c x) else s.scc.ctx c x) ∧
    (l.foldl searchCtx s).dpl.free.Perm
      (s.dpl.free ++ l.flatMap fun cx => searchFreed s.scc.fades[cx.1] (s.scc.ctx cx.1 cx.2)) := by
  induction l with
  | nil => exact fun s _ => ⟨{}, rfl, rfl, fun c x => by simp, by simp⟩
  | cons cx rest ih =>
    intro s nodup
    obtain ⟨fresh, nodupRest⟩ := List.nodup_cons.mp nodup
    obtain ⟨only, lct, scc⟩ := searchCtx_only s cx
    obtain ⟨onlyRest, lctRest, sccRest, ctxs, free⟩ := ih (searchCtx s cx) nodupRest
    have fades : (searchCtx s cx).scc.fades = s.scc.fades := by rw [scc]
    simp only [fades, searchCtx_ctx] at ctxs free
    refine ⟨only.trans onlyRest, lctRest.trans lct, ?_, fun c x => ?_, free.trans ?_⟩
    · rw [List.foldl_cons, sccRest, scc]
    · rw [List.foldl_cons, ctxs]
      by_cases here : (c, x) = cx
      · subst here
        simp [fresh]
      · simp [here]
    · have same : (rest.flatMap fun dy => searchFreed s.scc.fades[dy.1]
          (if (dy.1, dy.2) = cx then searchedCtx s.scc.fades[dy.1] (s.scc.ctx dy.1 dy.2) else s.scc.ctx dy.1 dy.2)) =
          rest.flatMap fun dy => searchFreed s.scc.fades[dy.1] (s.scc.ctx dy.1 dy.2) :=
        List.flatMap_congr fun dy mem => by
          have other : (dy.1, dy.2) ≠ cx := fun e => fresh (e ▸ mem)
          rw [if_neg other]
      rw [same, List.flatMap_cons, ← List.append_assoc]
      exact ((searchCtx_free s cx).trans List.perm_append_comm).append_right _

/-! #### The change in flight and the pending request (R90, R91) -/

/-- A change that has not switched ends ABORTED. -/
def abortsChange (t : Scc) : Bool := t.inFlight.isSome && (t.change = .cutting || t.change = .loading)

theorem abortInFlight_of_aborts {s : State} (h : abortsChange s.scc = true) : ∃ f : InFlight, s.scc.inFlight = some f ∧
    (s.scc.change = .cutting ∨ s.scc.change = .loading) ∧
    abortInFlight s = endRequest .aborted f.request (some f.target) (toIdle s) := by
  unfold abortsChange at h
  cases inFlight : s.scc.inFlight with
  | none => simp [inFlight] at h
  | some f =>
    have change : (s.scc.change = .cutting || s.scc.change = .loading) = true := by simpa [inFlight] using h
    refine ⟨f, rfl, by simpa using change, ?_⟩
    unfold abortInFlight
    rw [inFlight]
    exact if_pos change

theorem abortInFlight_of_not {s : State} (h : abortsChange s.scc = false) : abortInFlight s = toIdle s := by
  unfold abortInFlight
  split
  · rename_i inFlight
    refine if_neg fun change => ?_
    simp [abortsChange, inFlight, change] at h
  · rfl

theorem abortWaiting_some {s : State} {r : Request} (h : s.scc.waiting = some r) : abortWaiting s =
    endRequest .aborted r r.names { s with scc := { s.scc with waiting := none } } := by
  unfold abortWaiting
  rw [h]

theorem abortWaiting_none {s : State} (h : s.scc.waiting = none) : abortWaiting s = s := by
  unfold abortWaiting
  rw [h]

theorem endRequest_scene (o : SceneOutcome) (r : Request) (n : Option (Fin 128)) (s : State) :
    (endRequest o r n s).scc = { s.scc with last := some ⟨o, r, n⟩ } ∧
      (endRequest o r n s).lane = s.lane.raise .scene ∧
      (endRequest o r n s).lct.boxes.scene = Box.write (sceneRecord (endRequest o r n s)) := by
  refine ⟨by simp, ?_, ?_⟩
  · unfold endRequest; rw [lane_raise]; rfl
  · unfold endRequest; rw [raise_boxes]; simp [sceneRecord]

/-- What the end of a change in flight leaves. -/
theorem abortInFlight_leaves (s : State) :
    (SceneOnly s (abortInFlight s) ∧ (abortInFlight s).dpl = s.dpl) ∧
    (abortInFlight s).scc =
      { s.scc with change := .idle, inFlight := none, last := (abortInFlight s).scc.last } ∧
    (abortInFlight s).lane = s.lane.raiseIf (abortsChange s.scc) .scene ∧
    (∀ f : InFlight, s.scc.inFlight = some f → (s.scc.change = .cutting ∨ s.scc.change = .loading) →
      (abortInFlight s).scc.last = some ⟨.aborted, f.request, some f.target⟩) ∧
    (abortsChange s.scc = false → (abortInFlight s).scc.last = s.scc.last ∧
      (abortInFlight s).lct.boxes.scene = s.lct.boxes.scene) := by
  by_cases aborts : abortsChange s.scc = true
  · obtain ⟨f, inFlight, -, eq⟩ := abortInFlight_of_aborts aborts
    obtain ⟨scc, lane, -⟩ := endRequest_scene .aborted f.request (some f.target) (toIdle s)
    have only : SceneOnly s (toIdle s) := {}
    rw [eq, aborts, scc, lane]
    refine ⟨⟨only.trans (sceneOnly_endRequest _ _ _ _), by simp⟩, rfl, rfl, fun g hg _ => ?_, fun no => nomatch no⟩
    rw [inFlight] at hg
    cases hg
    rfl
  · have not : abortsChange s.scc = false := Bool.eq_false_of_not_eq_true aborts
    rw [abortInFlight_of_not not, not]
    refine ⟨⟨{}, rfl⟩, rfl, rfl, fun f inFlight change => ?_, fun _ => ⟨rfl, rfl⟩⟩
    rcases change with change | change <;> simp [abortsChange, inFlight, change] at not

/-- What the end of the pending request leaves. -/
theorem abortWaiting_leaves (s : State) :
    (SceneOnly s (abortWaiting s) ∧ (abortWaiting s).dpl = s.dpl) ∧
    (abortWaiting s).scc = { s.scc with waiting := none, last := (abortWaiting s).scc.last } ∧
    (abortWaiting s).lane = s.lane.raiseIf s.scc.waiting.isSome .scene ∧
    (∀ r : Request, s.scc.waiting = some r → (abortWaiting s).scc.last = some ⟨.aborted, r, r.names⟩) ∧
    (s.scc.waiting ≠ none → (abortWaiting s).lct.boxes.scene = Box.write (sceneRecord (abortWaiting s))) ∧
    (s.scc.waiting = none → abortWaiting s = s) := by
  cases waiting : s.scc.waiting with
  | none =>
    rw [abortWaiting_none waiting]
    refine ⟨⟨{}, rfl⟩, ?_, rfl, fun r hr => (nomatch hr), fun no => absurd rfl no, fun _ => rfl⟩
    rw [← waiting]
  | some r =>
    obtain ⟨scc, lane, box⟩ :=
      endRequest_scene .aborted r r.names { s with scc := { s.scc with waiting := none } }
    have only : SceneOnly s { s with scc := { s.scc with waiting := none } } := {}
    rw [abortWaiting_some waiting]
    refine ⟨⟨only.trans (sceneOnly_endRequest _ _ _ _), by simp⟩, ?_, lane, fun q hq => ?_, fun _ => box,
      fun no => nomatch no⟩
    · rw [scc]
    · rw [scc]
      cases hq
      rfl

/-! #### The response of the scene controller -/

/-- The scene controller's response but for mailbox 6. -/
def searchedScc (s : State) : State :=
  let t := allCtxs.foldl searchCtx s
  abortWaiting (abortInFlight { t with scc := { t.scc with fades := Vector.replicate 4 Fade.rest } })

theorem searchScc_eq (s : State) :
    searchScc s = if s.scc.change = .idle then searchedScc s else writeSceneBox (searchedScc s) := rfl

theorem allCtxs_nodup : allCtxs.Nodup := by decide

theorem mem_allCtxs : ∀ cx : Fin 4 × Fin 2, cx ∈ allCtxs := by decide

theorem abortsChange_idle {t : Scc} (h : t.change = .idle) : abortsChange t = false := by simp [abortsChange, h]

/-- What link search leaves of the scene controller and the free list: the contexts, the fades at rest, no change and no
pending request, and the outcome of those that end (R90). -/
structure SceneLeft (k m : Scc) (free left : List Nat) : Prop where
  scc : m = { k with
    ctxs := m.ctxs, fades := Vector.replicate 4 Fade.rest, change := .idle, inFlight := none, waiting := none
    last := m.last }
  ctxs : ∀ (c : Fin 4) (x : Fin 2), m.ctx c x = searchedCtx k.fades[c] (k.ctx c x)
  free : left.Perm (free ++ allCtxs.flatMap fun cx => searchFreed k.fades[cx.1] (k.ctx cx.1 cx.2))
  pending : ∀ r : Request, k.waiting = some r → m.last = some ⟨.aborted, r, r.names⟩
  flight : k.waiting = none → ∀ f : InFlight, k.inFlight = some f → (k.change = .cutting ∨ k.change = .loading) →
    m.last = some ⟨.aborted, f.request, some f.target⟩
  quiet : k.waiting = none → abortsChange k = false → m.last = k.last

/-- What the scene controller's response leaves but for mailbox 6. -/
structure SceneSearched (s t : State) : Prop where
  only : SceneOnly s t
  left : SceneLeft s.scc t.scc s.dpl.free t.dpl.free
  lane : t.lane = (s.lane.raiseIf (abortsChange s.scc) .scene).raiseIf s.scc.waiting.isSome .scene

/-- The state after link search at every context, with the fades at rest. -/
def searchedCtxs (s : State) : State :=
  { allCtxs.foldl searchCtx s with
    scc := { (allCtxs.foldl searchCtx s).scc with fades := Vector.replicate 4 Fade.rest } }

theorem searchedScc_eq (s : State) : searchedScc s = abortWaiting (abortInFlight (searchedCtxs s)) := rfl

theorem searchedCtxs_leaves (s : State) : SceneOnly s (searchedCtxs s) ∧ (searchedCtxs s).lct = s.lct ∧
    (searchedCtxs s).scc =
      { s.scc with ctxs := (searchedCtxs s).scc.ctxs, fades := Vector.replicate 4 Fade.rest } ∧
    (∀ (c : Fin 4) (x : Fin 2), (searchedCtxs s).scc.ctx c x = searchedCtx s.scc.fades[c] (s.scc.ctx c x)) ∧
    (searchedCtxs s).dpl.free.Perm
      (s.dpl.free ++ allCtxs.flatMap fun cx => searchFreed s.scc.fades[cx.1] (s.scc.ctx cx.1 cx.2)) := by
  obtain ⟨only, lct, scc, ctxs, free⟩ := foldl_searchCtx allCtxs s allCtxs_nodup
  unfold searchedCtxs
  generalize allCtxs.foldl searchCtx s = t at *
  refine ⟨only.trans {}, lct, ?_, fun c x => (ctxs c x).trans (if_pos (mem_allCtxs (c, x))), free⟩
  rw [scc]

theorem searchedScc_leaves (s : State) : SceneSearched s (searchedScc s) ∧
    (s.scc.waiting ≠ none → (searchedScc s).lct.boxes.scene = Box.write (sceneRecord (searchedScc s))) ∧
    (s.scc.waiting = none → abortsChange s.scc = false → (searchedScc s).lct.boxes.scene = s.lct.boxes.scene) := by
  rw [searchedScc_eq]
  obtain ⟨onlyT, lctT, sccT, ctxsT, freeT⟩ := searchedCtxs_leaves s
  generalize searchedCtxs s = t at *
  obtain ⟨⟨onlyU, dplU⟩, sccU, laneU, flight, quiet⟩ := abortInFlight_leaves t
  generalize abortInFlight t = u at *
  obtain ⟨⟨onlyV, dplV⟩, sccV, laneV, pending, box, same⟩ := abortWaiting_leaves u
  generalize abortWaiting u = v at *
  have waiting : u.scc.waiting = s.scc.waiting := by rw [sccU, sccT]
  have aborts : abortsChange t.scc = abortsChange s.scc := by rw [sccT]; rfl
  have laneS : t.lane = s.lane := by unfold State.lane; rw [lctT]
  have inFlight : t.scc.inFlight = s.scc.inFlight := by rw [sccT]
  have change : t.scc.change = s.scc.change := by rw [sccT]
  have last : t.scc.last = s.scc.last := by rw [sccT]
  rw [waiting] at laneV pending box same
  rw [aborts] at laneU quiet
  rw [inFlight, change] at flight
  refine ⟨⟨onlyT.trans (onlyU.trans onlyV), ⟨?_, fun c x => ?_, ?_, pending, ?_, ?_⟩, ?_⟩, box, ?_⟩
  · rw [sccV, sccU, sccT]
  · have ctxs : v.scc.ctxs = t.scc.ctxs := by rw [sccV, sccU]
    exact (congrArg (·[c][x]) ctxs).trans (ctxsT c x)
  · rw [dplV, dplU]; exact freeT
  · intro none; rw [same none]; exact flight
  · intro none no; rw [same none]; exact (quiet no).1.trans last
  · rw [laneV, laneU, laneS]
  · intro none no; rw [same none]; exact (quiet no).2.trans (by rw [lctT])

/-- What the scene controller's response leaves, with mailbox 6, which is written where a change or a request ends. -/
theorem searchScc_leaves (s : State) : SceneSearched s (searchScc s) ∧
    ((s.scc.change ≠ .idle ∨ s.scc.waiting ≠ none) →
      (searchScc s).lct.boxes.scene = Box.write (sceneRecord (searchScc s))) ∧
    (s.scc.change = .idle → s.scc.waiting = none → (searchScc s).lct.boxes.scene = s.lct.boxes.scene) := by
  obtain ⟨searched, told, still⟩ := searchedScc_leaves s
  rw [searchScc_eq]
  generalize searchedScc s = t at *
  split
  · rename_i idle
    exact ⟨searched, fun ended => told (ended.resolve_left fun no => no idle), fun idle none =>
      still none (abortsChange_idle idle)⟩
  · rename_i changes
    exact ⟨⟨searched.only.trans {}, searched.left, searched.lane⟩, fun _ => rfl, fun idle => absurd idle changes⟩

/-! ### The tuner as the link enters SEARCH (R128 to R130) -/

/-- A channel's state or its mute request differs. -/
def channelDiffers (old t : Tun) (c : Fin 4) : Bool :=
  !(old.channels[c].state = t.channels[c].state && old.mute c = t.mute c)

/-- The state with mailboxes 0 to 3 replaced. -/
def withTunerBoxes (s : State) (v : Vector (Box TunerRecord) 4) : State :=
  setBoxes (fun b => { b with tuner := v }) s

theorem foldl_reportChannel (old : State) (l : List (Fin 4)) : ∀ s : State, ∃ v : Vector (Box TunerRecord) 4,
    l.foldl (fun t c => reportChannel old c t) s = withTunerBoxes s v ∧
    ∀ c : Fin 4, v[c] =
      if c ∈ l ∧ channelDiffers old.tun s.tun c = true then Box.write (tunerRecord c s) else s.lct.boxes.tuner[c] := by
  induction l with
  | nil => exact fun s => ⟨s.lct.boxes.tuner, rfl, by simp⟩
  | cons d rest ih =>
    intro s
    obtain ⟨v, eq, get⟩ := ih (reportChannel old d s)
    by_cases differs : channelDiffers old.tun s.tun d = true
    · have written : reportChannel old d s = writeTunerBox d s := by
        unfold reportChannel
        exact if_neg fun same => by rw [channelDiffers, same] at differs; cases differs
      rw [written] at eq get
      have get (c : Fin 4) : v[c] = if c ∈ rest ∧ channelDiffers old.tun s.tun c = true then Box.write (tunerRecord c s)
        else (upd s.lct.boxes.tuner d (Box.write (tunerRecord d s)))[c] := get c
      refine ⟨v, by rw [List.foldl_cons, written, eq]; rfl, fun c => ?_⟩
      rw [get]
      by_cases same : c = d
      · subst same
        rw [upd_self]
        simp [differs]
      · rw [upd_other _ _ same]
        simp [same]
    · have kept : reportChannel old d s = s := by
        unfold reportChannel
        exact if_pos (by simpa [channelDiffers] using differs)
      rw [kept] at eq get
      refine ⟨v, by rw [List.foldl_cons, kept, eq], fun c => ?_⟩
      rw [get]
      by_cases same : c = d
      · subst same
        simp [differs]
      · simp [same]

/-- The tuner with its channels as link search leaves them. -/
def searchedTun (t : Tun) : Tun := { t with channels := tab fun c => t.channels[c].search t.engaged }

/-- A channel leaves READY as the link enters SEARCH. -/
def leavesReady (t : Tun) : Bool :=
  chains.any fun c => measures t.channels[c].mode t.engaged && t.channels[c].state = .ready

theorem readyChanged_search (k : Channel) (engaged : Bool) :
    readyChanged k.state (k.search engaged).state = (measures k.mode engaged && k.state = .ready) := by
  unfold Channel.search readyChanged
  cases measures k.mode engaged <;> simp

/-- What the tuner's response leaves: its channels, their mailboxes where they differ, and TUNER once (R130). -/
theorem searchTuner_leaves (s : State) : ∃ v : Vector (Box TunerRecord) 4,
    searchTuner s = raiseIf (leavesReady s.tun) .tuner (withTunerBoxes { s with tun := searchedTun s.tun } v) ∧
    ∀ c : Fin 4, v[c] = if channelDiffers s.tun (searchedTun s.tun) c = true
      then Box.write (tunerRecord c { s with tun := searchedTun s.tun }) else s.lct.boxes.tuner[c] := by
  obtain ⟨v, eq, get⟩ := foldl_reportChannel s chains { s with tun := searchedTun s.tun }
  have every : ∀ c : Fin 4, c ∈ chains := by decide
  refine ⟨v, ?_, fun c => by simpa [every c] using get c⟩
  unfold searchTuner reportChannels
  have told : anyReadyChanged s { s with tun := searchedTun s.tun } = leavesReady s.tun := by
    unfold anyReadyChanged leavesReady searchedTun
    simp only [Fin.getElem_fin, tab_get, readyChanged_search]
  exact congr (congrArg (fun p => raiseIf p .tuner) told) eq

theorem searchedTun_get (t : Tun) (c : Fin 4) : (searchedTun t).channels[c] = t.channels[c].search t.engaged := by
  simp [searchedTun]

end Sys2Proof.Machine

namespace Sys2Proof.Machine

set_option Elab.async false

/-! ### The entry to SEARCH (R175)

First what the blocks' responses leave, then what the evaluation does to it. -/

theorem changeLink_lane (f : Lif → Lif) (s : State) : (changeLink f s).lane = s.lane.raise .link := by
  unfold changeLink
  exact lane_raise .link (setLif f s)

theorem changeLink_desk (f : Lif → Lif) (s : State) : SameDesk s (changeLink f s) := by
  have first : SameDesk s (setLif f s) := {}
  have last : SameDesk (raise .link (setLif f s)) (changeLink f s) := {}
  exact first.trans ((sameDesk_raise .link _).trans last)

theorem changeLink_boxes (f : Lif → Lif) (s : State) : (changeLink f s).lct.boxes = { s.lct.boxes with
    link := ⟨⟨(f s.lif).state, (f s.lif).rate, s.lct.counters.slips, s.lct.counters.frameChecks⟩, true⟩ } := by
  have counters := (sameDesk_raise .link (setLif f s)).counters
  unfold changeLink writeLinkBox linkRecord
  simp [counters, Box.write]

/-- What the blocks' responses leave (Table 9-2). -/
structure BlocksSearched (s t : State) : Prop where
  lif : t.lif = s.lif.toSearch
  desk : SameDesk (abandon s) t
  lane : t.lane = ((((s.lane.raise .link).whole.raiseIf (abortsChange s.scc) .scene).raiseIf s.scc.waiting.isSome
    .scene).raiseIf (leavesReady s.tun) .tuner)
  boxes : t.lct.boxes = { s.lct.boxes with
    link := ⟨⟨.search, s.lif.rate, s.lct.counters.slips, s.lct.counters.frameChecks⟩, true⟩
    scene := t.lct.boxes.scene, tuner := t.lct.boxes.tuner }
  tuner : ∀ c : Fin 4, t.lct.boxes.tuner[c] = if channelDiffers s.tun t.tun c = true
    then Box.write (tunerRecord c t) else s.lct.boxes.tuner[c]
  chp : t.chp = s.chp
  mem : t.dpl.mem = s.dpl.mem
  scene : SceneLeft s.scc t.scc s.dpl.free t.dpl.free
  tfu : t.tfu = { s.tfu with taps := [], previousTap := none }
  tun : t.tun = searchedTun s.tun
  ort : t.ort = { s.ort with owners := Vector.replicate 8 { owner := .fill, outgoing := none, k := 0 } }
  bgv : t.bgv = s.bgv
  pending : t.pending = s.pending
  told : (s.scc.change ≠ .idle ∨ s.scc.waiting ≠ none) → t.lct.boxes.scene = Box.write (sceneRecord t)
  still : s.scc.change = .idle → s.scc.waiting = none → t.lct.boxes.scene = s.lct.boxes.scene

/-- The link told, the parcel in assembly abandoned and one of which words have left gone: what precedes the blocks'
responses. -/
def searchBegun (s : State) : State := dropPartial (abandon (changeLink Lif.toSearch s))

theorem dropPartial_eq (s : State) : dropPartial s = { s with lct := (dropPartial s).lct } := by
  unfold dropPartial
  split <;> rfl

theorem dropPartial_lct (s : State) :
    (dropPartial s).lct = { s.lct with queue := (dropPartial s).lct.queue, headSent := false } := by
  unfold dropPartial
  split
  · rfl
  · rename_i whole
    rw [← Bool.eq_false_of_not_eq_true whole]

theorem raise_eq (k : NoticeClass) (s : State) : raise k s = { s with lct := (raise k s).lct } := by
  unfold raise noticeIfDue
  split <;> rfl

theorem raiseIf_eq (p : Bool) (k : NoticeClass) (s : State) : raiseIf p k s = { s with lct := (raiseIf p k s).lct } := by
  cases p
  · rfl
  · exact raise_eq k s

theorem changeLink_eq (f : Lif → Lif) (s : State) :
    changeLink f s = { s with lif := f s.lif, lct := (changeLink f s).lct } := by
  unfold changeLink
  rw [raise_eq]
  rfl

theorem searchBegun_eq (s : State) : searchBegun s = { s with lif := s.lif.toSearch, lct := (searchBegun s).lct } := by
  unfold searchBegun
  rw [dropPartial_eq, changeLink_eq]
  rfl

theorem searchBegun_lane (s : State) : (searchBegun s).lane = (s.lane.raise .link).whole :=
  (lane_dropPartial _).trans (congrArg Lane.whole (changeLink_lane Lif.toSearch s))

theorem searchBegun_boxes (s : State) : (searchBegun s).lct.boxes = { s.lct.boxes with
    link := ⟨⟨.search, s.lif.rate, s.lct.counters.slips, s.lct.counters.frameChecks⟩, true⟩ } := by
  unfold searchBegun
  rw [dropPartial_lct]
  exact changeLink_boxes Lif.toSearch s

theorem searchBegun_desk (s : State) : SameDesk (abandon s) (searchBegun s) := by
  obtain ⟨-, arrived, hold, mask, counters, showLocked, permit⟩ := changeLink_desk Lif.toSearch s
  unfold searchBegun
  constructor <;> rw [dropPartial_lct]
  exacts [rfl, arrived, hold, mask, counters, showLocked, permit]

/-- The responses that come after the scene controller's: of the tempo, the tuner and the router. -/
def searchEnded (told : Bool) (v : Vector (Box TunerRecord) 4) (s : State) : State :=
  searchRouter (raiseIf told .tuner (withTunerBoxes { forgetTaps s with tun := searchedTun s.tun } v))

theorem searchEnded_eq (told : Bool) (v : Vector (Box TunerRecord) 4) (s : State) : searchEnded told v s = { s with
    lct := (searchEnded told v s).lct
    tfu := { s.tfu with taps := [], previousTap := none }
    tun := searchedTun s.tun
    ort := { s.ort with owners := Vector.replicate 8 { owner := .fill, outgoing := none, k := 0 } } } := by
  unfold searchEnded
  rw [raiseIf_eq]
  rfl

theorem searchEnded_lane (told : Bool) (v : Vector (Box TunerRecord) 4) (s : State) :
    (searchEnded told v s).lane = s.lane.raiseIf told .tuner := by
  unfold searchEnded
  exact lane_raiseIf told .tuner _

theorem searchEnded_boxes (told : Bool) (v : Vector (Box TunerRecord) 4) (s : State) :
    (searchEnded told v s).lct.boxes = { s.lct.boxes with tuner := v } := by
  unfold searchEnded
  exact raiseIf_boxes told .tuner _

theorem searchEnded_desk (told : Bool) (v : Vector (Box TunerRecord) 4) (s : State) :
    SameDesk s (searchEnded told v s) := by
  have first : SameDesk s (withTunerBoxes { forgetTaps s with tun := searchedTun s.tun } v) := {}
  obtain ⟨assembler, arrived, hold, mask, counters, showLocked, permit⟩ := first.trans (sameDesk_raiseIf told .tuner _)
  exact ⟨assembler, arrived, hold, mask, counters, showLocked, permit⟩

/-- What the blocks' responses leave, block by block in the order they are taken. -/
theorem searchBlocks_eq (s : State) : ∃ v : Vector (Box TunerRecord) 4,
    searchBlocks (changeLink Lif.toSearch s) =
      searchEnded (leavesReady (searchScc (searchBegun s)).tun) v (searchScc (searchBegun s)) ∧
    ∀ c : Fin 4, v[c] = if channelDiffers (searchScc (searchBegun s)).tun (searchedTun (searchScc (searchBegun s)).tun) c = true
      then Box.write (tunerRecord c { searchScc (searchBegun s) with tun := searchedTun (searchScc (searchBegun s)).tun })
      else (searchScc (searchBegun s)).lct.boxes.tuner[c] := by
  obtain ⟨v, eq, get⟩ := searchTuner_leaves (forgetTaps (searchScc (searchBegun s)))
  exact ⟨v, congrArg searchRouter eq, get⟩

theorem searchBlocks_leaves (s : State) : BlocksSearched s (searchBlocks (changeLink Lif.toSearch s)) := by
  obtain ⟨v, eq, tuner⟩ := searchBlocks_eq s
  rw [eq]
  have eqA := searchBegun_eq s
  have laneA := searchBegun_lane s
  have boxesA := searchBegun_boxes s
  have deskA := searchBegun_desk s
  generalize searchBegun s = a at *
  obtain ⟨⟨only, left, lane⟩, told, still⟩ := searchScc_leaves a
  generalize searchScc a = b at *
  have scc : a.scc = s.scc := by rw [eqA]
  have dpl : a.dpl = s.dpl := by rw [eqA]
  have tun : b.tun = s.tun := only.tun.trans (by rw [eqA])
  have eqT := searchEnded_eq (leavesReady b.tun) v b
  have laneT := searchEnded_lane (leavesReady b.tun) v b
  have boxesT := searchEnded_boxes (leavesReady b.tun) v b
  have deskT := searchEnded_desk (leavesReady b.tun) v b
  rw [scc] at left lane told still
  rw [dpl] at left
  rw [tun] at tuner laneT eqT deskT boxesT ⊢
  generalize searchEnded (leavesReady s.tun) v b = t at *
  have sccT : t.scc = b.scc := by rw [eqT]
  have dplT : t.dpl = b.dpl := by rw [eqT]
  have tunT : t.tun = searchedTun s.tun := by rw [eqT]
  refine
    { lif := ?_, desk := deskA.trans (only.desk.trans deskT), lane := ?_, boxes := ?_, tuner := fun c => ?_, chp := ?_
      mem := ?_, scene := ?_, tfu := ?_, tun := tunT, ort := ?_, bgv := ?_, pending := ?_, told := ?_, still := ?_ }
  · rw [eqT]; exact only.lif.trans (by rw [eqA])
  · rw [laneT, lane, laneA]
  · rw [boxesT, only.boxes, boxesA]
  · have record : tunerRecord c t = tunerRecord c { b with tun := searchedTun s.tun } := by
      unfold tunerRecord
      rw [tunT]
    rw [record, tunT, boxesT]
    refine (tuner c).trans ?_
    rw [only.boxes, boxesA]
  · rw [eqT]; exact only.chp.trans (by rw [eqA])
  · rw [dplT]; exact only.mem.trans (by rw [dpl])
  · rw [sccT, dplT]; exact left
  · rw [eqT]; dsimp only; rw [only.tfu, eqA]
  · rw [eqT]; dsimp only; rw [only.ort, eqA]
  · rw [eqT]; exact only.bgv.trans (by rw [eqA])
  · rw [eqT]; exact only.pending.trans (by rw [eqA])
  · intro ended
    have record : sceneRecord t = sceneRecord b := by
      unfold sceneRecord
      rw [sccT]
    rw [boxesT, record]
    exact told ended
  · intro idle none
    rw [boxesT]
    exact (still idle none).trans (by rw [boxesA])

end Sys2Proof.Machine

namespace Sys2Proof.Machine

set_option Elab.async false

/-! ### The evaluation of an entry to SEARCH (R154, R155, R162) -/

/-- An evaluation has changed a mark. -/
def marksChanged (b d : Bgv) : Bool := d.halvings ≠ b.halvings || d.sheds ≠ b.sheds || d.bypass ≠ b.bypass

theorem marksChanged_self (b : Bgv) : marksChanged b b = false := by simp [marksChanged]

/-- What the evaluation of an entry to SEARCH changes, whether it is taken or not: marks, the governor's record, GOVERN and
mailbox 5. -/
structure MarksMoved (u t : State) : Prop where
  lif : t.lif = u.lif := by rfl
  desk : SameDesk u t := by exact {}
  lane : t.lane = u.lane.raiseIf (marksChanged u.bgv t.bgv) .govern
  boxes : t.lct.boxes = { u.lct.boxes with governor := t.lct.boxes.governor } := by rfl
  chp : t.chp = u.chp := by rfl
  dpl : t.dpl = u.dpl := by rfl
  scc : t.scc = { u.scc with ctxs := t.scc.ctxs } := by rfl
  ctxs : ∀ (c : Fin 4) (x : Fin 2), (t.scc.ctx c x).atRequest = (u.scc.ctx c x).atRequest
  tfu : t.tfu = u.tfu := by rfl
  tun : t.tun = u.tun := by rfl
  ort : t.ort = u.ort := by rfl
  pending : t.pending = u.pending := by rfl

theorem MarksMoved.refl (u : State) : MarksMoved u u where
  lane := by rw [marksChanged_self]; rfl
  ctxs _ _ := rfl

theorem runSet_ctx (u : State) (c : Fin 4) (x : Fin 2) : u.runSet.atRequest.ctxs[c][x] = (u.scc.ctx c x).atRequest :=
  mapCtxs_get _ _ _ _

/-- The evaluation changes marks alone where the contexts are LIVE or empty and no fade runs. -/
theorem evaluationCourse_marksOnly (u : State) (rest : Resting u.runSet.atRequest) :
    MarksOnly u.runSet.atRequest (evaluationCourse u) := passes_marksOnly _ _ rest (runSet_atRequest_idem _)

theorem runSet_atRequest_fades (r : RunSet) : r.atRequest.fades = r.fades := rfl

theorem runSet_atRequest_free (r : RunSet) : r.atRequest.free = r.free := rfl

/-- What an evaluation with such a course leaves. -/
theorem evaluated_moves (u : State) (e : Course) (marks : MarksOnly u.runSet.atRequest e) :
    MarksMoved u (raiseIf (governTold e u) .govern (evaluated e u)) := by
  have told : governTold e u = marksChanged u.bgv (evaluatedBgv e u) := by
    unfold governTold
    rw [marks.dips, marks.cuts]
    simp only [lt_irrefl, decide_false, Bool.or_false]
    rfl
  have fades : e.set.fades = u.scc.fades := by rw [← runSet_atRequest_fades, marks.set]; rfl
  have free : e.set.free = u.dpl.free := by rw [← runSet_atRequest_free, marks.set]; rfl
  have boxes := raiseIf_boxes (governTold e u) .govern (evaluated e u)
  have lane := lane_raiseIf (governTold e u) .govern (evaluated e u)
  have desk : SameDesk u (evaluated e u) := {}
  have desk := desk.trans (sameDesk_raiseIf (governTold e u) .govern (evaluated e u))
  have eq := raiseIf_eq (governTold e u) .govern (evaluated e u)
  rw [told] at *
  generalize raiseIf _ .govern (evaluated e u) = t at *
  exact
    { lif := by rw [eq]; rfl
      desk := desk
      lane := by rw [lane, eq]; rfl
      boxes := by rw [boxes]; rfl
      chp := by rw [eq]; rfl
      dpl := by rw [eq]; show { u.dpl with free := e.set.free } = u.dpl; rw [free]
      scc := by rw [eq]; show { u.scc with ctxs := e.set.ctxs, fades := e.set.fades } = _; rw [fades]; rfl
      ctxs := fun c x => by
        rw [eq, ← runSet_ctx u, ← marks.set]
        exact (mapCtxs_get _ _ _ _).symm
      tfu := by rw [eq]; rfl
      tun := by rw [eq]; rfl
      ort := by rw [eq]; rfl
      pending := by rw [eq]; rfl }

/-- What the evaluation of an entry to SEARCH leaves of the governor. -/
structure EvaluationTaken (u t : State) : Prop where
  moves : MarksMoved u t
  bgv : t.bgv = { u.bgv with
    bypass := t.bgv.bypass, halvings := t.bgv.halvings, sheds := t.bgv.sheds
    dips := min 255 u.bgv.dips, cuts := min 255 u.bgv.cuts
    requestedDemand := t.runSet.atRequest.demand, demand := t.runSet.demand, evaluate := false }
  budget : t.runSet.demand ≤ t.budget
  box : t.lct.boxes.governor = ⟨governorRecord t, true⟩
  passes : (∀ (c : Fin 4) (x : Fin 2), (u.scc.ctx c x).stages.length ≤ 12) → ∃ e : Course,
    Passes15 t.budget t.runSet.atRequest e ∧ e.set = t.runSet ∧ e.halvings = t.bgv.halvings ∧ e.sheds = t.bgv.sheds

theorem evaluateMarks_taken (u : State) (rest : Resting u.runSet.atRequest) : EvaluationTaken u (evaluateMarks u) := by
  have marks := evaluationCourse_marksOnly u rest
  have fits := evaluationCourse_budget u
  have passes := evaluationCourse_passes u
  rw [evaluateMarks_eq]
  generalize evaluationCourse u = e at *
  have moves := evaluated_moves u e marks
  have eq := raiseIf_eq (governTold e u) .govern (evaluated e u)
  have boxes := raiseIf_boxes (governTold e u) .govern (evaluated e u)
  generalize raiseIf _ .govern (evaluated e u) = t at *
  have set : t.runSet = e.set := by rw [eq]; rfl
  have bgv : t.bgv = evaluatedBgv e u := by rw [eq]; rfl
  have budget : t.budget = u.budget := by rw [eq]; rfl
  refine ⟨moves, ?_, ?_, ?_, fun short => ⟨e, ?_, set.symm, ?_, ?_⟩⟩
  · rw [set, marks.set, bgv]
    unfold evaluatedBgv addCapped
    rw [marks.dips, marks.cuts]
    rfl
  · rw [set, budget]; exact fits
  · rw [boxes]
    have record : governorRecord t = governorRecord (evaluated e u) := by rw [eq]; rfl
    rw [record]
    rfl
  · rw [budget, set, marks.set]; exact passes short
  · rw [bgv]; rfl
  · rw [bgv]; rfl

/-! #### The contexts -/

theorem searchedCtx_of_stays {f : Fade} {k : Ctx} (h : staysLive f k = true) :
    searchedCtx f k = { k with stages := k.stages.map Stage.zero } := if_pos h

theorem searchedCtx_of_leaves {f : Fade} {k : Ctx} (h : staysLive f k = false) : searchedCtx f k = Ctx.empty :=
  if_neg (by simp [h])

theorem searchedCtx_rests (f : Fade) (k : Ctx) :
    (searchedCtx f k).atRequest.state = .live ∨ (searchedCtx f k).atRequest = Ctx.empty := by
  by_cases stays : staysLive f k = true
  · left
    rw [searchedCtx_of_stays stays]
    have live : k.state = .live := by
      unfold staysLive at stays
      simp only [Bool.and_eq_true, decide_eq_true_eq] at stays
      exact stays.1.1
    exact live
  · right
    rw [searchedCtx_of_leaves (Bool.eq_false_of_not_eq_true stays)]
    rfl

theorem searchedCtx_length (f : Fade) (k : Ctx) (h : k.stages.length ≤ 12) : (searchedCtx f k).stages.length ≤ 12 := by
  unfold searchedCtx
  split
  · simpa using h
  · simp [Ctx.empty]

theorem resting_of_searched {s u : State} (h : BlocksSearched s u) : Resting u.runSet.atRequest where
  ctxs c x := by
    rw [runSet_ctx, h.scene.ctxs]
    exact searchedCtx_rests _ _
  fades c := by
    have fades : u.scc.fades = Vector.replicate 4 Fade.rest := by rw [h.scene.scc]
    show u.scc.fades[c] = Fade.rest
    rw [fades]
    simp

/-- Contexts with the same requested state have the same stages but for marks. -/
theorem ctx_of_atRequest {k m : Ctx} (h : m.atRequest = k.atRequest) : m = { k with stages := m.stages } ∧
    m.stages.map Stage.record = k.stages.map Stage.record ∧ m.stages.map Stage.blocks = k.stages.map Stage.blocks ∧
    m.stages.map Stage.proc = k.stages.map Stage.proc := by
  obtain ⟨state, scene, pan, stages, a, b, c, d, e⟩ := k
  obtain ⟨state', scene', pan', stages', a', b', c', d', e'⟩ := m
  simp only [Ctx.atRequest, Ctx.mk.injEq] at h
  obtain ⟨rfl, rfl, rfl, same, rfl, rfl, rfl, rfl, rfl⟩ := h
  have through {α : Type} (f : Stage → α) (hf : ∀ st : Stage, f st.atRequest = f st) : stages'.map f = stages.map f := by
    simpa [Function.comp_def, hf] using congrArg (List.map f) same
  exact ⟨rfl, through _ fun _ => rfl, through _ fun _ => rfl, through _ fun _ => rfl⟩

theorem ctxSearched_of_atRequest {s t : State} {c : Fin 4} {x : Fin 2}
    (h : (t.scc.ctx c x).atRequest = (searchedCtx s.scc.fades[c] (s.scc.ctx c x)).atRequest) : CtxSearched s t c x := by
  refine ⟨fun stays => ?_, fun leaves => ?_⟩
  · rw [searchedCtx_of_stays stays] at h
    obtain ⟨same, record, blocks, proc⟩ := ctx_of_atRequest h
    refine ⟨same, record.trans ?_, blocks.trans ?_, proc.trans ?_⟩
    · simp [Function.comp_def, Stage.zero]
    · simp [Function.comp_def, Stage.zero]
    · simp [Function.comp_def, Stage.zero]
  · rw [searchedCtx_of_leaves leaves] at h
    exact empty_of_atRequest h

/-! #### Whether the evaluation is taken -/

/-- The evaluation that an entry to SEARCH takes: for a context that has changed its state, or one that still waited. -/
def evaluationDue (s u : State) : Bool := ctxStates u.scc.ctxs ≠ ctxStates s.scc.ctxs || u.bgv.evaluate

theorem enterSearch_eq (s : State) : enterSearch s =
    evaluationEventIf (evaluationDue s (searchBlocks (changeLink Lif.toSearch s)))
      (searchBlocks (changeLink Lif.toSearch s)) := rfl

theorem evaluationDue_iff (s u : State) : evaluationDue s u = true ↔
    (u.bgv.evaluate = true ∨ ∃ (c : Fin 4) (x : Fin 2), (u.scc.ctx c x).state ≠ (s.scc.ctx c x).state) := by
  have differs : ctxStates u.scc.ctxs ≠ ctxStates s.scc.ctxs ↔
      ∃ (c : Fin 4) (x : Fin 2), (u.scc.ctx c x).state ≠ (s.scc.ctx c x).state := by
    unfold ctxStates Scc.ctx
    rw [Ne, List.map_inj_left]
    constructor
    · intro h
      by_contra none
      exact h fun cx _ => by_contra fun ne => none ⟨cx.1, cx.2, ne⟩
    · rintro ⟨c, x, ne⟩ same
      exact ne (same (c, x) (mem_allCtxs (c, x)))
  simp only [evaluationDue, Bool.or_eq_true, decide_eq_true_eq, differs]
  exact or_comm

/-- With no change in flight no load starts behind the evaluation, so in SEARCH it is the passes alone. -/
theorem evaluationEvent_of_search {u : State} (search : u.lif.state = .search) (idle : u.scc.change = .idle)
    (moves : MarksMoved u (evaluateMarks u)) : evaluationEvent u = evaluateMarks u := by
  have none : loadDue (evaluateMarks u) = false := by
    have change : (evaluateMarks u).scc.change = .idle := by rw [moves.scc]; exact idle
    simp [loadDue, change]
  have stopped : u.lif.state.processing = false := by rw [search]; rfl
  unfold evaluationEvent evaluateNow
  dsimp only
  rw [stopped, if_neg Bool.false_ne_true, none, if_neg Bool.false_ne_true]

/-- An entry to SEARCH is the blocks' responses, then marks alone, moved by an evaluation where one is due. -/
theorem enterSearch_leaves (s : State) : ∃ u : State, BlocksSearched s u ∧ MarksMoved u (enterSearch s) ∧
    (evaluationDue s u = true → EvaluationTaken u (enterSearch s)) ∧
    (evaluationDue s u = false → enterSearch s = u) := by
  have blocks := searchBlocks_leaves s
  have taken := evaluateMarks_taken _ (resting_of_searched blocks)
  have event := evaluationEvent_of_search (by rw [blocks.lif]; rfl) (by rw [blocks.scene.scc]) taken.moves
  rw [enterSearch_eq]
  generalize searchBlocks (changeLink Lif.toSearch s) = u at *
  cases due : evaluationDue s u with
  | true =>
    have now : evaluationEventIf true u = evaluateMarks u := event
    rw [now]
    exact ⟨u, blocks, taken.moves, fun _ => taken, fun no => nomatch due.symm.trans no⟩
  | false => exact ⟨u, blocks, .refl u, fun now => (nomatch due.symm.trans now), fun _ => rfl⟩

/-! ### The entry to SEARCH, block by block -/

theorem searchLane_lane (s t : State) : (searchLane s t).lane =
    ((((s.lane.raise .link).whole.raiseIf (abortsChange s.scc) .scene).raiseIf s.scc.waiting.isSome .scene).raiseIf
      (leavesReady s.tun) .tuner).raiseIf (marksChanged s.bgv t.bgv) .govern := by
  unfold searchLane
  dsimp only
  rw [lane_raiseIf, lane_raiseIf, lane_raiseIf, lane_raiseIf, ← lane_raise]
  rfl

theorem headSent_searchLane (s t : State) : (searchLane s t).lane.headSent = false := by
  rw [searchLane_lane]
  exact Lane.raiseIf_headSent _ _ _ (Lane.raiseIf_headSent _ _ _ (Lane.raiseIf_headSent _ _ _
    (Lane.raiseIf_headSent _ _ _ rfl)))

theorem lct_of_desk {s t : State} (h : SameDesk s t) : t.lct = { s.lct with
    queue := t.lct.queue, headSent := t.lct.headSent, notices := t.lct.notices, counters := t.lct.counters
    boxes := t.lct.boxes } := by
  obtain ⟨assembler, arrived, hold, mask, -, showLocked, permit⟩ := h
  dsimp only
  rw [← assembler, ← arrived, ← hold, ← mask, ← showLocked, ← permit]

theorem aborted_of_left {s t : State} {free left : List Nat} {m : Scc} (h : SceneLeft s.scc m free left)
    (scc : t.scc = { m with ctxs := t.scc.ctxs }) : Aborted s t := by
  have last : t.scc.last = m.last := by rw [scc]
  refine ⟨by rw [scc, h.scc], by rw [scc, h.scc], by rw [scc, h.scc], fun r waits => last.trans (h.pending r waits),
    fun none => ⟨fun f inFlight change => last.trans (h.flight none f inFlight change), fun ends => ?_⟩⟩
  refine last.trans (h.quiet none ?_)
  unfold abortsChange
  rcases ends with ends | ends | ends <;> simp [ends]

theorem channelReported_of {s t : State} {c : Fin 4} (h : t.lct.boxes.tuner[c] =
    if channelDiffers s.tun t.tun c = true then Box.write (tunerRecord c t) else s.lct.boxes.tuner[c]) :
    ChannelReported s t c := by
  refine ⟨fun differs => h.trans (if_pos ?_), fun state mute => h.trans (if_neg ?_)⟩
  · unfold channelDiffers
    rcases differs with state | mute
    · rw [decide_eq_false (Ne.symm state)]; rfl
    · rw [decide_eq_false (Ne.symm mute), Bool.and_false]; rfl
  · unfold channelDiffers
    rw [state, mute]
    simp

theorem searchEvaluated_of {s u : State} (blocks : BlocksSearched s u) {t : State} (moves : MarksMoved u t)
    (taken : evaluationDue s u = true → EvaluationTaken u t) (kept : evaluationDue s u = false → t = u) :
    SearchEvaluated s t := by
  have state (c : Fin 4) (x : Fin 2) : (t.scc.ctx c x).state = (u.scc.ctx c x).state :=
    (congrArg Ctx.state (moves.ctxs c x) : _)
  have due : evaluationDue s u = true ↔
      (s.bgv.evaluate = true ∨ ∃ (c : Fin 4) (x : Fin 2), (t.scc.ctx c x).state ≠ (s.scc.ctx c x).state) := by
    rw [evaluationDue_iff, blocks.bgv]
    simp only [state]
  unfold SearchEvaluated
  dsimp only
  rw [← due]
  refine ⟨fun now => ?_, fun no => ?_⟩
  · obtain ⟨-, bgv, budget, box, passes⟩ := taken now
    rw [blocks.bgv] at bgv
    refine ⟨bgv, budget, box, fun short => passes fun c x => ?_⟩
    rw [blocks.scene.ctxs]
    exact searchedCtx_length _ _ (short c x)
  · rw [kept (Bool.eq_false_of_not_eq_true no)]
    refine ⟨blocks.bgv, by rw [blocks.boxes], fun c x stays => ?_⟩
    rw [blocks.scene.ctxs, searchedCtx_of_stays stays]
    simp [Function.comp_def, Stage.zero]

/-- An entry to SEARCH leaves what the rules of the blocks say, and the counters. -/
theorem enterSearch_entered (s : State) :
    SearchEntered s (enterSearch s) ∧ (enterSearch s).lct.counters = s.lct.counters := by
  obtain ⟨u, blocks, moves, taken, kept⟩ := enterSearch_leaves s
  have evaluated := searchEvaluated_of blocks moves taken kept
  generalize enterSearch s = t at *
  have desk := blocks.desk.trans moves.desk
  have lane : t.lane = (searchLane s t).lane := by
    rw [moves.lane, blocks.lane, blocks.bgv, searchLane_lane]
  have headSent : t.lct.headSent = false := (congrArg Lane.headSent lane).trans (headSent_searchLane s t)
  have scc : t.scc = { u.scc with ctxs := t.scc.ctxs } := moves.scc
  refine ⟨⟨?lif, ?lct, ?link, ?tempo, ?supply, ?meters, ?ctxs, ?free, ?mem, ?fades, ?aborted, ?told, ?still, ?stack,
    ?live, ?scenes, ?tfu, ?owners, ?routes, ?panic, ?engaged, ?reference, ?tuner, evaluated, ?chp, ?pending⟩,
    desk.counters⟩
  case lif => exact moves.lif.trans blocks.lif
  case lct =>
    have queue : t.lct.queue = (searchLane s t).lct.queue := congrArg Lane.queue lane
    have notices : t.lct.notices = (searchLane s t).lct.notices := congrArg Lane.notices lane
    rw [← queue, ← notices, ← headSent]
    exact lct_of_desk desk
  case link => rw [moves.boxes, blocks.boxes]
  case tempo => rw [moves.boxes, blocks.boxes]
  case supply => rw [moves.boxes, blocks.boxes]
  case meters => rw [moves.boxes, blocks.boxes]
  case ctxs =>
    exact fun c x => ctxSearched_of_atRequest ((moves.ctxs c x).trans (congrArg Ctx.atRequest (blocks.scene.ctxs c x)))
  case free => rw [moves.dpl]; exact blocks.scene.free
  case mem => rw [moves.dpl]; exact blocks.mem
  case fades =>
    have fades : t.scc.fades = Vector.replicate 4 Fade.rest := by rw [scc, blocks.scene.scc]
    rw [fades]
    simp [Fade.rest]
  case aborted => exact aborted_of_left blocks.scene scc
  case told =>
    intro ended
    have box : t.lct.boxes.scene = Box.write (sceneRecord u) := by rw [moves.boxes]; exact blocks.told ended
    have last : t.scc.last = u.scc.last := by rw [scc]
    rw [box, last]
    unfold sceneRecord
    rw [blocks.scene.scc]
    rfl
  case still =>
    intro idle none
    rw [moves.boxes]
    exact blocks.still idle none
  case stack => rw [scc, blocks.scene.scc]
  case live => rw [scc, blocks.scene.scc]
  case scenes => rw [scc, blocks.scene.scc]
  case tfu => exact moves.tfu.trans blocks.tfu
  case owners => rw [moves.ort, blocks.ort]; simp
  case routes => rw [moves.ort, blocks.ort]
  case panic => rw [moves.ort, blocks.ort]
  case engaged => rw [moves.tun, blocks.tun]; rfl
  case reference => rw [moves.tun, blocks.tun]; rfl
  case tuner =>
    intro c
    have tun : t.tun = searchedTun s.tun := moves.tun.trans blocks.tun
    have record : tunerRecord c t = tunerRecord c u := by unfold tunerRecord; rw [moves.tun]
    have channel : t.tun.channels[c] = s.tun.channels[c].search s.tun.engaged := by rw [tun, searchedTun_get]
    refine ⟨channelReported_of ?_, fun measuring => channel.trans (if_pos measuring), fun not =>
      channel.trans (if_neg (Bool.not_eq_true _ ▸ not))⟩
    rw [record, moves.tun, moves.boxes]
    exact blocks.tuner c
  case chp => exact moves.chp.trans blocks.chp
  case pending => exact moves.pending.trans blocks.pending

/-- A link loss is an entry to SEARCH that counts; the count of losses is read by no block's response. -/
theorem loseLink_lost (s : State) : SearchEntered s (loseLink s) ∧
    (loseLink s).lct.counters = { s.lct.counters with losses := min 65535 (s.lct.counters.losses + 1) } := by
  have entered := enterSearch_entered (setCounters (fun n => { n with losses := countUp n.losses }) s)
  unfold loseLink
  generalize hc : setCounters (fun n => { n with losses := countUp n.losses }) s = counted at *
  generalize enterSearch counted = t at *
  subst hc
  obtain ⟨⟨lif, lct, rest⟩, counters⟩ := entered
  have lane : (searchLane (setCounters (fun n => { n with losses := countUp n.losses }) s) t).lane =
      (searchLane s t).lane := by
    rw [searchLane_lane, searchLane_lane]
    rfl
  have queue := congrArg Lane.queue lane
  have notices := congrArg Lane.notices lane
  refine ⟨⟨lif, lct.trans ?_, rest⟩, counters⟩
  dsimp only [State.lane] at queue notices
  rw [queue, notices]
  rfl

theorem inLink_of_quiet {state : LinkState} (f : State → State) {s : State} (calm : quiet s = true)
    (h : s.lif.state = state) : inLink state f s = f s := by
  unfold inLink
  rw [settle_of_quiet s calm]
  exact if_pos h

theorem inWindow_iff (r : Rate) (count : Nat) :
    inWindow r count = true ↔ 199 * r.hz * count ≤ 314572800000 ∧ 314572800000 ≤ 201 * r.hz * count := by
  unfold inWindow
  rw [Bool.and_eq_true, decide_eq_true_eq, decide_eq_true_eq]

theorem watchRate_of_ended {count : Nat} {r : Rate} {s : State} (rate : s.lif.rate = some r) (ended : s.lif.span = 64) :
    watchRate count s =
      if inWindow r count then { s with lif := { s.lif with span := 0 } } else loseLink s := by
  have last : spanEnded s.lif = true := decide_eq_true ended
  unfold watchRate
  rw [if_pos last, rate]
  rfl

/-- Settles O60: each of the three entries is the blocks' responses, in their order, and the marks of one evaluation; a
span that has not ended, and a count in the window, enter nothing. -/
theorem searchIsEnteredWithEveryResponse : Obligations.SearchIsEnteredWithEveryResponse := by
  unfold Obligations.SearchIsEnteredWithEveryResponse
  dsimp only
  refine ⟨fun count r s calm locked rate => ?_, fun s before holdover periods => ?_, fun s calm measuring => ?_⟩
  · have watch : exec (.rateDeparture count) s = .next (watchRate count s) :=
      congrArg Host.Outcome.next (inLink_of_quiet _ calm locked)
    rw [watch]
    refine ⟨fun running => ?_, fun ended low high => ?_, fun ended outside => ⟨loseLink s, ?_, loseLink_lost s⟩⟩
    · rw [watchRate_of_running count s (decide_eq_false running)]
    · rw [watchRate_of_ended rate ended, if_pos ((inWindow_iff r count).mpr ⟨low, high⟩)]
    · rw [watchRate_of_ended rate ended, if_neg fun within => ?_]
      obtain ⟨low, high⟩ := (inWindow_iff r count).mp within
      omega
  · have due : due .holdoverExpiry s = true := by
      show (s.lif.state = .holdover && 32 ≤ s.lif.periods) = true
      simp [holdover, periods]
    exact ⟨loseLink s, congrArg Host.Outcome.next (inTurn_of_due .holdoverExpiry s before due), loseLink_lost s⟩
  · exact ⟨enterSearch s, congrArg Host.Outcome.next (inLink_of_quiet _ calm measuring), enterSearch_entered s⟩

end Sys2Proof.Machine

namespace Sys2Proof.Machine

set_option Elab.async false

/-! ### Parcels that the guard admits, and runs of the store (R39, R42, R149, R187) -/

/-- An admitted parcel that nothing waits before and that its block refuses consumes the permit alone (R149, R187). -/
theorem arrive_refused_of_admitted {k : Kind} {tag : Word} {body : List Word} {s : State} {code : Code}
    (clear : Clear k s) (len : kindAccepts k body.length = true) (adm : Admitted k s)
    (h : ∀ t : State, t.scc = s.scc → kindEffect k body t = refuse code t) :
    arriveParcel { kind := Kind.code k, tag := tag, body := body } (settle s) =
      replied k tag code [] (consumePermit s) := by
  rw [arrive_of_admitted k tag body s clear len adm, h (consumePermit (executing s)) rfl]
  rfl

/-- An admitted parcel that nothing waits before and that its block carries out. -/
theorem arrive_done_of_admitted {k : Kind} {tag : Word} {body : List Word} {s t : State} {data : List Word}
    (clear : Clear k s) (len : kindAccepts k body.length = true) (adm : Admitted k s)
    (h : kindEffect k body (consumePermit (executing s)) = okWith data t) :
    arriveParcel { kind := Kind.code k, tag := tag, body := body } (settle s) =
      replied k tag .ok data (setQueue s.lct.queue t) := by
  rw [arrive_of_admitted k tag body s clear len adm, h]
  rfl

/-- An index answers RANGE where every index in range does: one beyond the range answers it too. -/
theorem withIndex_refused {n a : Nat} {s : State} {f : Fin n → Answer}
    (h : ∀ i : Fin n, i.val = a → f i = refuse .range s) : withIndex n a s f = refuse .range s := by
  by_cases inRange : a < n
  · exact (withIndex_val n ⟨a, inRange⟩ s f).trans (h ⟨a, inRange⟩ rfl)
  · exact withIndex_ge n a s f (Nat.le_of_not_lt inRange)

/-- The checks of a run of points or taps: the slot, the first index, and the end of the run (R39, R41, R42). -/
def withRun (slots size slot first count : Nat) (s : State) (f : Fin slots → Fin size → Answer) : Answer :=
  withIndex slots slot s fun k => withIndex size first s fun i => if size < i.val + count then refuse .range s else f k i

/-- A run that passes the end of its slot is refused, whatever its slot (R39, R41, R42). -/
theorem withRun_overlong {slots size slot first count : Nat} {s : State} {f : Fin slots → Fin size → Answer}
    (h : size < first + count) : withRun slots size slot first count s f = refuse .range s :=
  withIndex_refused fun _ _ => withIndex_refused fun _ start => if_pos (start ▸ h)

/-- A run within its slot, its slot and first index spelt as the first two words of a body. -/
theorem withRun_within {slots size count : Nat} {k : Fin slots} {i : Fin size} {rest : List Word} {s : State}
    {f : Fin slots → Fin size → Answer} (few : slots ≤ 65536) (short : size ≤ 65536) (fits : i.val + count ≤ size) :
    withRun slots size (bodyNat (word k.val :: word i.val :: rest) 0) (bodyNat (word k.val :: word i.val :: rest) 1)
      count s f = f k i := by
  have slot : bodyNat (word k.val :: word i.val :: rest) 0 = k.val := word_toNat k.val (by omega)
  have start : bodyNat (word k.val :: word i.val :: rest) 1 = i.val := word_toNat i.val (by omega)
  rw [slot, start, withRun, withIndex_val, withIndex_val, if_neg (Nat.not_lt.mpr fits)]

theorem effWriteCurvePoints_eq (body : List Word) (s : State) : effWriteCurvePoints body s =
    withRun 16 257 (bodyNat body 0) (bodyNat body 1) (body.length - 2) s fun k first =>
      okWith [flagWord (first.val + (body.length - 2) = 257)] { s with chp := { s.chp with
        curves := upd s.chp.curves k (s.chp.curves[k].write first.val (body.length - 2) body) } } := rfl

theorem effWriteCabTaps_eq (body : List Word) (s : State) : effWriteCabTaps body s =
    withRun 8 128 (bodyNat body 0) (bodyNat body 1) (body.length - 2) s fun k first =>
      okWith [flagWord (first.val + (body.length - 2) = 128)] { s with chp := { s.chp with
        cabs := upd s.chp.cabs k (s.chp.cabs[k].write first.val (body.length - 2) body) } } := rfl

theorem effReadCurvePoints_eq (body : List Word) (s : State) : effReadCurvePoints body s =
    withRun 16 257 (bodyNat body 0) (bodyNat body 1) (clampNat 1 48 (bodyNat body 2)) s fun k first =>
      okWith ([word k.val, word first.val] ++
        readRun s.chp.curves[k].live first.val (clampNat 1 48 (bodyNat body 2))) s := rfl

theorem effReadCabTaps_eq (body : List Word) (s : State) : effReadCabTaps body s =
    withRun 8 128 (bodyNat body 0) (bodyNat body 1) (clampNat 1 48 (bodyNat body 2)) s fun k first =>
      okWith ([word k.val, word first.val] ++
        readRun s.chp.cabs[k].live first.val (clampNat 1 48 (bodyNat body 2))) s := rfl

/-! ### Refused runs and absent scenes (R65, R66, R68) -/

/-- A run of records that passes the last position is refused before its slot is asked for (R66). -/
theorem effWriteStages_overlong {body : List Word} {s : State} (h : 12 < bodyNat body 2 + (body.length - 3) / 10) :
    effWriteStages body s = refuse .range s :=
  withIndex_refused fun _ _ => withIndex_refused fun _ _ => withIndex_refused fun _ start => if_pos (start ▸ h)

section
variable {body : List Word} {s : State} {n : Fin 128} {c : Fin 4}

theorem effWriteSection_absent (slot : bodyNat body 0 = n.val) (chain : bodyNat body 1 = c.val)
    (absent : s.scc.scenes[n] = none) : effWriteSection body s = refuse .absent s := by
  unfold effWriteSection
  rw [slot, chain, withIndex_val, withIndex_val, absent]

theorem effWriteStages_absent {first : Fin 12} (slot : bodyNat body 0 = n.val) (chain : bodyNat body 1 = c.val)
    (position : bodyNat body 2 = first.val) (fits : first.val + (body.length - 3) / 10 ≤ 12)
    (absent : s.scc.scenes[n] = none) : effWriteStages body s = refuse .absent s := by
  unfold effWriteStages
  dsimp only
  rw [slot, chain, position, withIndex_val, withIndex_val, withIndex_val, if_neg (Nat.not_lt.mpr fits), absent]

theorem effReadScene_absent {first : Fin 12} (slot : bodyNat body 0 = n.val) (chain : bodyNat body 1 = c.val)
    (position : bodyNat body 2 = first.val) (absent : s.scc.scenes[n] = none) :
    effReadScene body s = refuse .absent s := by
  unfold effReadScene
  rw [slot, chain, position, withIndex_val, withIndex_val, withIndex_val, absent]

end

/-- A body of *Write Stages* carries at least one record. -/
theorem one_record_of_accepted {length : Nat} (h : kindAccepts .writeStages length = true) : 1 ≤ (length - 3) / 10 := by
  simp only [kindAccepts, Bool.or_eq_true, decide_eq_true_eq] at h
  omega

/-- Settles O17: the checks of a run refuse one that is too long in any slot, and an absent slot has no section. -/
theorem overlongRunsAndAbsentScenesAreRefused : Obligations.OverlongRunsAndAbsentScenesAreRefused := by
  intro k tag body s clear adm len
  have refused {code : Code} (h : ∀ t : State, t.scc = s.scc → kindEffect k body t = refuse code t) :=
    congrArg Host.Outcome.next (β := Result) (arrive_refused_of_admitted (tag := tag) clear len adm h)
  refine ⟨?_, ?_, ?_, ?_, ?_, fun n c slot chain absent => ⟨?_, ?_, ?_⟩⟩
  · rintro rfl long
    exact refused fun _ _ => (effWriteCurvePoints_eq _ _).trans (withRun_overlong long)
  · rintro rfl long
    exact refused fun _ _ => (effWriteCabTaps_eq _ _).trans (withRun_overlong long)
  · rintro rfl long
    exact refused fun _ _ => (effReadCurvePoints_eq _ _).trans (withRun_overlong long)
  · rintro rfl long
    exact refused fun _ _ => (effReadCabTaps_eq _ _).trans (withRun_overlong long)
  · rintro rfl long
    exact refused fun _ _ => effWriteStages_overlong long
  · rintro rfl
    exact refused fun _ same => effWriteSection_absent slot chain (same ▸ absent)
  · rintro rfl fits
    have inRange : (body.getD 2 0).toNat < 12 := by
      have := one_record_of_accepted len
      omega
    exact refused fun _ same => effWriteStages_absent (first := ⟨_, inRange⟩) slot chain rfl fits (same ▸ absent)
  · rintro rfl inRange
    exact refused fun _ same => effReadScene_absent (first := ⟨_, inRange⟩) slot chain rfl (same ▸ absent)

/-! ### Writes of the store (R39 to R41) -/

/-- A body of slot, first index and points: its run is the points, and the shadow takes them from the first index up. -/
theorem writeRun_get {n : Nat} (copy : Vector Int n) (slot start : Word) (points : List Word) (first : Nat) (j : Fin n) :
    (writeRun copy first points.length (slot :: start :: points))[j] =
      if first ≤ j.val ∧ j.val < first + points.length then pointOf (points.getD (j.val - first) 0) else copy[j] := by
  have carried (i : Nat) : bodyWord (slot :: start :: points) (2 + i) = points.getD i 0 := by
    rw [Nat.add_comm]; rfl
  simp [writeRun, carried]

theorem effWriteCurvePoints_run {k : Fin 16} {first : Nat} {points : List Word} (nonempty : 1 ≤ points.length)
    (fits : first + points.length ≤ 257) (s : State) :
    effWriteCurvePoints (word k.val :: word first :: points) s =
      okWith [flagWord (first + points.length = 257)] { s with chp := { s.chp with
        curves := upd s.chp.curves k
          (s.chp.curves[k].write first points.length (word k.val :: word first :: points)) } } :=
  (effWriteCurvePoints_eq _ s).trans (withRun_within (i := ⟨first, by omega⟩) (by decide) (by decide) fits)

theorem effWriteCabTaps_run {k : Fin 8} {first : Nat} {points : List Word} (nonempty : 1 ≤ points.length)
    (fits : first + points.length ≤ 128) (s : State) :
    effWriteCabTaps (word k.val :: word first :: points) s =
      okWith [flagWord (first + points.length = 128)] { s with chp := { s.chp with
        cabs := upd s.chp.cabs k
          (s.chp.cabs[k].write first points.length (word k.val :: word first :: points)) } } :=
  (effWriteCabTaps_eq _ s).trans (withRun_within (i := ⟨first, by omega⟩) (by decide) (by decide) fits)

/-- A slot, a first index and 1 to 48 points are a body length that Table 11-4 accepts for both writes. -/
theorem runLength_accepted (slot start : Word) (points : List Word) (nonempty : 1 ≤ points.length)
    (most : points.length ≤ 48) :
    kindAccepts .writeCurvePoints (slot :: start :: points).length = true ∧
      kindAccepts .writeCabTaps (slot :: start :: points).length = true := by
  simp only [kindAccepts, List.length_cons, Bool.and_eq_true, decide_eq_true_eq]
  omega

/-- Settles O34: the run passes its checks, so the slot is written, and committed as it is written. -/
theorem writingTheStoreFillsTheShadowAndCommits : Obligations.WritingTheStoreFillsTheShadowAndCommits := by
  constructor
  · intro tag k first points s nonempty most fits clear adm
    let body : List Word := word k.val :: word first :: points
    refine ⟨s.chp.curves[k].write first points.length body, writeRun_get _ _ _ _ _, rfl, ?_⟩
    have len := (runLength_accepted (word k.val) (word first) points nonempty most).1
    exact congrArg Host.Outcome.next (arrive_done_of_admitted clear len adm (effWriteCurvePoints_run nonempty fits _))
  · intro tag k first points s nonempty most fits clear adm
    let body : List Word := word k.val :: word first :: points
    refine ⟨s.chp.cabs[k].write first points.length body, writeRun_get _ _ _ _ _, rfl, ?_⟩
    have len := (runLength_accepted (word k.val) (word first) points nonempty most).2
    exact congrArg Host.Outcome.next (arrive_done_of_admitted clear len adm (effWriteCabTaps_run nonempty fits _))

/-! ### Reads of the store (R42, R201) -/

theorem pointOf_isSample (w : Word) : IsSample (pointOf w) := by
  have low := BitVec.le_toInt w
  have high := BitVec.toInt_lt (x := w)
  unfold IsSample pointOf sampleMin sampleMax
  split <;> omega

/-- A word other than 0x7FFF carries a multiple of 256, which the greatest sample is not. -/
theorem pointWord_pointOf (w : Word) : pointWord (pointOf w) = w := by
  by_cases greatest : w = 0x7FFF
  · subst greatest
    decide
  · have multiple : w.toInt * 256 ≠ sampleMax := by unfold sampleMax; omega
    rw [pointOf, if_neg greatest, pointWord, if_neg multiple, Int.mul_ediv_cancel _ (by decide)]
    exact BitVec.ofInt_toInt

/-- A count of 1 to 48 is not clamped (R42). -/
theorem runCount_of_range (slot start : Word) {count : Nat} (low : 1 ≤ count) (most : count ≤ 48) :
    clampNat 1 48 (bodyNat [slot, start, word count] 2) = count :=
  (congrArg (clampNat 1 48) (word_toNat count (by omega))).trans (clampNat_of_range 1 48 count low most)

theorem effReadCurvePoints_run {k : Fin 16} {first count : Nat} (low : 1 ≤ count) (most : count ≤ 48)
    (fits : first + count ≤ 257) (s : State) :
    effReadCurvePoints [word k.val, word first, word count] s =
      okWith ([word k.val, word first] ++ readRun s.chp.curves[k].live first count) s := by
  rw [effReadCurvePoints_eq, runCount_of_range _ _ low most]
  exact withRun_within (i := ⟨first, by omega⟩) (by decide) (by decide) fits

theorem effReadCabTaps_run {k : Fin 8} {first count : Nat} (low : 1 ≤ count) (most : count ≤ 48)
    (fits : first + count ≤ 128) (s : State) :
    effReadCabTaps [word k.val, word first, word count] s =
      okWith ([word k.val, word first] ++ readRun s.chp.cabs[k].live first count) s := by
  rw [effReadCabTaps_eq, runCount_of_range _ _ low most]
  exact withRun_within (i := ⟨first, by omega⟩) (by decide) (by decide) fits

/-- Settles O35: the run passes its checks, so the live copy is answered, and the state is left as it stands. -/
theorem readingTheStoreAnswersTheLiveCopy : Obligations.ReadingTheStoreAnswersTheLiveCopy := by
  refine ⟨fun w => ⟨pointOf_isSample w, pointWord_pointOf w⟩, ?_, ?_⟩
  · intro tag k first count s low most fits clear
    exact congrArg Host.Outcome.next (arrive_done_of_admitted clear rfl (admitted_of_unguarded _ _ rfl)
      (effReadCurvePoints_run low most fits _))
  · intro tag k first count s low most fits clear
    exact congrArg Host.Outcome.next (arrive_done_of_admitted clear rfl (admitted_of_unguarded _ _ rfl)
      (effReadCabTaps_run low most fits _))

end Sys2Proof.Machine

namespace Sys2Proof.Machine

set_option Elab.async false

/-! ### The samples of the pool (R46, R49) -/

/-- The elementary changes of a step keep the canonical form: only the frame of the chains stores samples. -/
theorem memoryOk_stepInvariant : StepInvariant MemoryOk where
  core e h := by unfold MemoryOk; rw [e.dpl]; exact h
  ctxs _ _ h := h
  idle _ _ h := h
  cut _ _ h := h
  spill _ _ h := h
  load {s} f c h := by
    unfold loadChain
    dsimp only
    split
    · exact h
    · exact h
  mem _ keeps h := keeps h
  stack _ _ h := h
  taps _ _ h := h
  log _ _ h := h
  hold _ _ h := h
  queue _ _ h := h
  reply _ _ h := h
  period _ h := h
  rate _ _ h := h
  powerOn _ := rfl

/-- Settles O7: the canonical form is kept by every elementary change of a step, so by every step. -/
theorem stepKeepsThePoolSamplesCanonical : Obligations.StepKeepsThePoolSamplesCanonical :=
  fun _ _ h e => memoryOk_stepInvariant.keeps_step (fun _ _ h => h) h e

/-! ### The blocks of the pool (R54 to R56)

Every elementary change moves blocks between one context and the free list: together they stay a permutation of the 48
blocks, and a block goes back to its place in the order. -/

theorem insertBlock_sorted (b : Nat) (free : List Nat) (h : free.Pairwise (· ≤ ·)) :
    (insertBlock b free).Pairwise (· ≤ ·) := by
  induction free with
  | nil => exact List.pairwise_singleton _ _
  | cons f free ih =>
    obtain ⟨least, sorted⟩ := List.pairwise_cons.mp h
    unfold insertBlock
    split
    · rename_i lt
      refine List.pairwise_cons.mpr ⟨fun a ha => ?_, h⟩
      rcases List.mem_cons.mp ha with rfl | ha
      · exact lt.le
      · exact lt.le.trans (least a ha)
    · rename_i ge
      refine List.pairwise_cons.mpr ⟨fun a ha => ?_, ih sorted⟩
      rcases List.mem_cons.mp ((insertBlock_perm b free).mem_iff.mp ha) with rfl | ha
      · exact Nat.le_of_not_lt ge
      · exact least a ha

/-- Blocks that are put back leave the free list in ascending order (R56). -/
theorem freeBlocks_sorted (blocks free : List Nat) (h : free.Pairwise (· ≤ ·)) :
    (freeBlocks blocks free).Pairwise (· ≤ ·) := by
  induction blocks with
  | nil => exact h
  | cons b blocks ih => exact insertBlock_sorted b _ ih

/-- An allocation takes blocks from the front of the free list (R55). -/
theorem allocate_rest (stages : List Stage) (free : List Nat) :
    (allocate stages free).2 = free.drop (stages.map fun st => st.record.need).sum := by
  induction stages generalizing free with
  | nil => rfl
  | cons st rest ih => simp [allocate, ih, List.drop_drop]

/-- One list of several replaced by another: what is taken out and what is put in change places. -/
theorem flatMap_replaced {α β : Type} [DecidableEq α] (f : α → List β) (a : α) (y : List β) (l : List α)
    (nodup : l.Nodup) (mem : a ∈ l) :
    ((l.flatMap fun b => if b = a then y else f b) ++ f a).Perm (l.flatMap f ++ y) := by
  induction l with
  | nil => cases mem
  | cons b rest ih =>
    obtain ⟨fresh, nodupRest⟩ := List.nodup_cons.mp nodup
    simp only [List.flatMap_cons]
    by_cases here : b = a
    · subst here
      have same : (rest.flatMap fun d => if d = b then y else f d) = rest.flatMap f :=
        List.flatMap_congr fun d hd => if_neg fun e : d = b => fresh (e ▸ hd)
      rw [if_pos rfl, same]
      exact List.perm_append_comm.trans ((List.perm_append_comm.append_left _).trans (by simp))
    · rw [if_neg here, List.append_assoc, List.append_assoc]
      exact (ih nodupRest ((List.mem_cons.mp mem).resolve_left fun e => here e.symm)).append_left _

theorem heldList_setCtx (v : Vector (Vector Ctx 2) 4) (c : Fin 4) (x : Fin 2) (k : Ctx) :
    (heldList (setCtx v c x k) ++ v[c][x].blocks).Perm (heldList v ++ k.blocks) := by
  have get (cx : Fin 4 × Fin 2) : (setCtx v c x k)[cx.1][cx.2].blocks =
      if cx = (c, x) then k.blocks else v[cx.1][cx.2].blocks := by
    rw [setCtx_get, apply_ite Ctx.blocks]
    exact if_congr (Prod.ext_iff (x := cx) (y := (c, x))).symm rfl rfl
  unfold heldList
  simp only [get]
  exact flatMap_replaced (fun cx : Fin 4 × Fin 2 => v[cx.1][cx.2].blocks) (c, x) _ _ allCtxs_nodup (mem_allCtxs _)

/-- A context replaced, with blocks moved between it and the free list and none lost. -/
theorem poolOk_moved {s : State} (h : PoolOk s) (c : Fin 4) (x : Fin 2) (k : Ctx) (free : List Nat)
    (moved : (free ++ k.blocks).Perm (s.dpl.free ++ (s.scc.ctx c x).blocks)) (sorted : free.Pairwise (· ≤ ·))
    (idle : k.state = .idle → k.blocks = []) :
    PoolOk { s with scc := { s.scc with ctxs := setCtx s.scc.ctxs c x k }, dpl := { s.dpl with free := free } } := by
  obtain ⟨idleEmpty, all, -⟩ := h
  have held := heldList_setCtx s.scc.ctxs c x k
  have perm : (free ++ heldList (setCtx s.scc.ctxs c x k)).Perm (List.range Config.poolBlocks) := by
    refine List.Perm.trans ?_ all
    refine (List.perm_append_right_iff (s.scc.ctx c x).blocks).mp ?_
    calc (free ++ heldList (setCtx s.scc.ctxs c x k)) ++ (s.scc.ctx c x).blocks
        _ = free ++ (heldList (setCtx s.scc.ctxs c x k) ++ (s.scc.ctx c x).blocks) := List.append_assoc _ _ _
        List.Perm _ (free ++ (heldList s.scc.ctxs ++ k.blocks)) := held.append_left _
        List.Perm _ (free ++ (k.blocks ++ heldList s.scc.ctxs)) := List.perm_append_comm.append_left _
        _ = (free ++ k.blocks) ++ heldList s.scc.ctxs := (List.append_assoc _ _ _).symm
        List.Perm _ ((s.dpl.free ++ (s.scc.ctx c x).blocks) ++ heldList s.scc.ctxs) := moved.append_right _
        _ = s.dpl.free ++ ((s.scc.ctx c x).blocks ++ heldList s.scc.ctxs) := List.append_assoc _ _ _
        List.Perm _ (s.dpl.free ++ (heldList s.scc.ctxs ++ (s.scc.ctx c x).blocks)) :=
          List.perm_append_comm.append_left _
        _ = (s.dpl.free ++ heldList s.scc.ctxs) ++ (s.scc.ctx c x).blocks := (List.append_assoc _ _ _).symm
  refine ⟨fun d y => ?_, perm, ?_⟩
  · show (setCtx s.scc.ctxs c x k)[d][y].state = .idle → (setCtx s.scc.ctxs c x k)[d][y].blocks = []
    rw [setCtx_get]
    split
    · exact idle
    · exact idleEmpty d y
  · have distinct : free.Nodup := (List.nodup_append.mp (perm.nodup_iff.mpr List.nodup_range)).1
    exact (sorted.and distinct).imp fun ⟨le, ne⟩ => lt_of_le_of_ne le ne

theorem sorted_of_poolOk {s : State} (h : PoolOk s) : s.dpl.free.Pairwise (· ≤ ·) :=
  h.2.2.imp fun lt => Nat.le_of_lt lt

/-- A context replaced by one that keeps some of its blocks, the others being put back. -/
theorem poolOk_released {s : State} (h : PoolOk s) (c : Fin 4) (x : Fin 2) (k : Ctx) (freed : List Nat)
    (split : (freed ++ k.blocks).Perm (s.scc.ctx c x).blocks) (idle : k.state = .idle → k.blocks = []) :
    PoolOk (releaseBlocks freed (putCtx c x k s)) := by
  refine poolOk_moved h c x k (freeBlocks freed s.dpl.free) ?_ (freeBlocks_sorted _ _ (sorted_of_poolOk h)) idle
  calc freeBlocks freed s.dpl.free ++ k.blocks
      List.Perm _ ((freed ++ s.dpl.free) ++ k.blocks) := (freeBlocks_perm _ _).append_right _
      List.Perm _ ((s.dpl.free ++ freed) ++ k.blocks) := List.perm_append_comm.append_right _
      _ = s.dpl.free ++ (freed ++ k.blocks) := List.append_assoc _ _ _
      List.Perm _ (s.dpl.free ++ (s.scc.ctx c x).blocks) := split.append_left _

/-- The blocks of a context are those that a tail keeps and the others (R56). -/
theorem dry_and_spill_blocks (k : Ctx) : (k.dryBlocks ++ k.keepSpill.blocks).Perm k.blocks := by
  obtain ⟨state, scene, pan, stages, a, b, c, d, e⟩ := k
  simp only [Ctx.dryBlocks, Ctx.keepSpill, Ctx.blocks]
  induction stages with
  | nil => exact List.Perm.refl _
  | cons st rest ih =>
    cases spills : st.record.spills with
    | true =>
      simp only [List.filter_cons, spills, Bool.not_true, Bool.false_eq_true, if_false, if_true, List.map_cons,
        List.flatMap_cons]
      exact (List.perm_append_comm_assoc _ _ _).trans (ih.append_left _)
    | false =>
      simp only [List.filter_cons, spills, Bool.not_false, if_true, Bool.false_eq_true, if_false, List.map_cons,
        List.flatMap_cons, List.nil_append, List.append_assoc]
      exact ih.append_left _

theorem heldList_congr {v w : Vector (Vector Ctx 2) 4} (h : ∀ (c : Fin 4) (x : Fin 2), w[c][x].blocks = v[c][x].blocks) :
    heldList w = heldList v := List.flatMap_congr fun cx _ => h cx.1 cx.2

/-- The law of the pool speaks of the free list and of the blocks of the contexts. -/
theorem poolOk_of_same {s t : State} (h : PoolOk s) (free : t.dpl.free = s.dpl.free)
    (ctxs : ∀ (c : Fin 4) (x : Fin 2), SameHold (s.scc.ctx c x) (t.scc.ctx c x)) : PoolOk t := by
  obtain ⟨idleEmpty, all, sorted⟩ := h
  have held : heldList t.scc.ctxs = heldList s.scc.ctxs := heldList_congr fun c x => (ctxs c x).blocks
  refine ⟨fun c x idle => ?_, ?_, ?_⟩
  · rw [(ctxs c x).blocks]
    exact idleEmpty c x ((ctxs c x).idle idle)
  · rw [free, held]; exact all
  · rw [free]; exact sorted

theorem reset_ctx (c : Fin 4) (x : Fin 2) : State.reset.scc.ctx c x = Ctx.empty := by
  simp [State.reset, Scc.reset, Scc.ctx]

theorem poolOk_reset : PoolOk State.reset := by
  refine ⟨fun c x _ => by rw [reset_ctx]; rfl, ?_, List.pairwise_lt_range⟩
  have held : heldList State.reset.scc.ctxs = [] :=
    List.flatMap_eq_nil_iff.mpr fun cx _ => congrArg Ctx.blocks (reset_ctx cx.1 cx.2)
  rw [held, List.append_nil]
  exact List.Perm.refl _

/-- The elementary changes of a step keep the law of the pool. -/
theorem poolOk_stepInvariant : StepInvariant PoolOk where
  core e h := poolOk_of_same h (by rw [e.dpl]) fun c x => by
    unfold Scc.ctx
    rw [e.ctxs]
    exact ⟨rfl, rfl, id⟩
  ctxs v same h := poolOk_of_same h rfl same
  idle c x h := poolOk_released h c x Ctx.empty _ (by simp [Ctx.empty, Ctx.blocks]) fun _ => rfl
  cut c x h := poolOk_released h c x _ _ (dry_and_spill_blocks _) fun e => nomatch e
  spill c x h := poolOk_released h c x _ _ (dry_and_spill_blocks _) fun e => nomatch e
  load {s} f c h := by
    unfold loadChain
    dsimp only
    split
    · rename_i due
      have idle : (s.scc.ctx c f.standby[c]).state = .idle := by simp_all
      refine poolOk_moved h c f.standby[c] _ _ ?_ ?_ fun e => nomatch e
      · rw [h.1 c _ idle, List.append_nil]
        exact List.perm_append_comm.trans (allocate_perm _ _)
      · rw [allocate_rest]
        exact (sorted_of_poolOk h).sublist (List.drop_sublist _ _)
    · exact h
  mem _ _ h := h
  stack _ _ h := h
  taps _ _ h := h
  log _ _ h := h
  hold _ _ h := h
  queue _ _ h := h
  reply _ _ h := h
  period _ h := h
  rate _ _ h := h
  powerOn _ := poolOk_reset

/-- Settles O8: every elementary change of a step moves blocks between one context and the free list and loses none. -/
theorem stepKeepsEveryBlockExactlyOnce : Obligations.StepKeepsEveryBlockExactlyOnce :=
  fun _ _ h e => poolOk_stepInvariant.keeps_step (fun _ _ h => h) h e

/-- Settles O4: the lists of the power-on state are empty, its period lies in the range of 48 kHz, and every block is
free. -/
theorem resetIsSafe : Obligations.ResetIsSafe := by
  have tempo : TempoOk State.reset := ⟨by decide, by decide⟩
  refine ⟨⟨Nat.zero_le _, Nat.zero_le _, Nat.zero_le _, Nat.zero_le _, fun c x => ?_⟩, rfl, Nat.zero_le _, tempo,
    poolOk_reset⟩
  rw [reset_ctx]
  exact Nat.zero_le _

end Sys2Proof.Machine

namespace Sys2Proof.Machine

set_option Elab.async false

/-! ### The line of a DELAY stage (R46 to R50) -/

theorem capacity_eq (blocks : List Nat) : capacity blocks = 4096 * blocks.length := Nat.mul_comm _ _

theorem lineAddress_eq (blocks : List Nat) (q : Nat) :
    lineAddress blocks q = 4096 * blocks.getD (q / 4096) 0 + q % 4096 := by
  unfold lineAddress Config.blockSize
  rw [Nat.mul_comm]

theorem division_frames (d : Division) (period : Nat) : d.frames period = match d with
    | .half => 2 * period
    | .quarter => period
    | .dottedEighth => 3 * period / 4
    | .quarterTriplet => 2 * period / 3
    | .eighth => period / 2
    | .sixteenth => period / 4 := by
  cases d <;> simp [Division.frames, Division.ratio, Nat.mul_comm]

theorem glide_below {current target : Nat} (h : current < target) : glide current target = min target (current + 2) :=
  if_pos h

theorem glide_above {current target : Nat} (h : target < current) : glide current target = max target (current - 2) := by
  unfold glide
  rw [if_neg (Nat.lt_asymm h), if_pos h]

theorem glide_at (target : Nat) : glide target target = target := by simp [glide]

theorem frameLength_of_set {line : LineProc} {current : Nat} (h : line.readLength = some current) (p : DelayParams)
    (blocks : List Nat) (period : Nat) :
    frameLength p blocks period line = glide current (targetLength p blocks period) := by
  unfold frameLength
  rw [h]

theorem targetLength_eq (p : DelayParams) (blocks : List Nat) (period : Nat) : targetLength p blocks period =
    max 1 (min (min p.maxLength (4096 * blocks.length))
      (if p.mode = .fixed then p.fixedLength else p.division.frames period)) := by
  unfold targetLength clampNat
  rw [capacity_eq]
  cases p.mode <;> rfl

/-- The read length of a line that stands at its fixed length stays there (R47, R48). -/
theorem frameLength_settled {p : DelayParams} {blocks : List Nat} {line : LineProc} (mode : p.mode = .fixed)
    (one : 1 ≤ p.fixedLength) (most : p.fixedLength ≤ p.maxLength) (fits : p.fixedLength ≤ 4096 * blocks.length)
    (settled : line.readLength = some p.fixedLength) (period : Nat) :
    frameLength p blocks period line = p.fixedLength := by
  have target : targetLength p blocks period = p.fixedLength := by
    rw [targetLength_eq, if_pos mode]
    omega
  rw [frameLength_of_set settled, target, glide_at]

/-- Distinct positions of a line whose blocks are distinct have distinct addresses (R46, R54). -/
theorem lineAddress_injective {blocks : List Nat} (distinct : blocks.Nodup) {q r : Nat} (hq : q < capacity blocks)
    (hr : r < capacity blocks) (same : lineAddress blocks q = lineAddress blocks r) : q = r := by
  rw [capacity_eq] at hq hr
  rw [lineAddress_eq, lineAddress_eq] at same
  have blockQ : q / 4096 < blocks.length := by omega
  have blockR : r / 4096 < blocks.length := by omega
  have block : blocks.getD (q / 4096) 0 = blocks.getD (r / 4096) 0 := by omega
  rw [List.getD_eq_getElem _ _ blockQ, List.getD_eq_getElem _ _ blockR] at block
  have index : q / 4096 = r / 4096 := (distinct.getElem_inj_iff).mp block
  omega

/-- The position that a read reaches is the one written as many frames before (R49). -/
theorem readPosition_eq {size start n length : Nat} (fits : length ≤ size) (past : length ≤ n) :
    ((start + n) % size + size - length) % size = (start + (n - length)) % size := by
  calc ((start + n) % size + size - length) % size
      _ = ((start + n) % size + (size - length)) % size := by rw [Nat.add_sub_assoc fits]
      _ = (start + n + (size - length)) % size := Nat.mod_add_mod _ _ _
      _ = (start + (n - length) + size) % size := by congr 1; omega
      _ = (start + (n - length)) % size := Nat.add_mod_right _ _

/-- Frames of one span of a line write to distinct positions (R46). -/
theorem writePosition_ne {size start j n : Nat} (before : j < n) (span : n < j + size) :
    (start + n) % size ≠ (start + j) % size := fun same => by
  have multiple : (start + n - (start + j)) % size = 0 := Nat.sub_mod_eq_zero_of_mod_eq same
  rw [Nat.mod_eq_of_lt (by omega)] at multiple
  omega

/-! #### Frame by frame -/

/-- The stage and the pool before frame n of a list of inputs. -/
def lineRun (p : DelayParams) (period : Nat) (inputs : List Int) (st : Stage) (mem : List (Nat × Int)) :
    Nat → Stage × List (Nat × Int)
  | 0 => (st, mem)
  | n + 1 =>
    let before := lineRun p period inputs st mem n
    ((delayStep p before.1 period (inputs.getD n 0) before.2).stage,
      (delayStep p before.1 period (inputs.getD n 0) before.2).mem)

theorem lineRun_cons (p : DelayParams) (period : Nat) (x : Int) (inputs : List Int) (st : Stage)
    (mem : List (Nat × Int)) (n : Nat) : lineRun p period (x :: inputs) st mem (n + 1) =
      lineRun p period inputs (delayStep p st period x mem).stage (delayStep p st period x mem).mem n := by
  induction n with
  | zero => rfl
  | succ n ih => rw [lineRun, ih]; rfl

theorem delayOutputs_get (p : DelayParams) (period : Nat) (inputs : List Int) (st : Stage) (mem : List (Nat × Int))
    (n : Nat) (h : n < inputs.length) : (delayOutputs p period inputs st mem)[n]? =
      some (delayStep p (lineRun p period inputs st mem n).1 period (inputs.getD n 0)
        (lineRun p period inputs st mem n).2).out := by
  induction inputs generalizing st mem n with
  | nil => cases h
  | cons x inputs ih =>
    cases n with
    | zero => rfl
    | succ n =>
      rw [lineRun_cons]
      exact ih _ _ n (Nat.lt_of_succ_lt_succ h)

/-- The delayed sample of frame n. -/
def lineDelayed (p : DelayParams) (period : Nat) (inputs : List Int) (st : Stage) (mem : List (Nat × Int)) (n : Nat) :
    Int :=
  let before := lineRun p period inputs st mem n
  delayed before.1.blocks before.1.proc.line (frameLength p before.1.blocks period before.1.proc.line) before.2

/-- The line input of frame n. -/
def lineInput (p : DelayParams) (period : Nat) (inputs : List Int) (st : Stage) (mem : List (Nat × Int)) (n : Nat) :
    Int :=
  saturate (inputs.getD n 0 + roundDiv (p.feedback * lineDelayed p period inputs st mem n) 32768)

/-- The line of a stage before frame n of a run from zero: its counts, and the line inputs u of the frames whose positions
no later frame has written. -/
structure LineHolds (start : Stage) (length : Nat) (u : Nat → Int) (n : Nat) (st : Stage) (mem : List (Nat × Int)) :
    Prop where
  blocks : st.blocks = start.blocks
  line : st.proc.line =
    ⟨min (capacity start.blocks) n, (start.proc.line.writePos + n) % capacity start.blocks, some length⟩
  wf : Memory.wf mem = true
  kept : ∀ j < n, n ≤ j + capacity start.blocks →
    memRead mem (lineAddress start.blocks ((start.proc.line.writePos + j) % capacity start.blocks)) = u j

/-- The delayed sample is the line input of as many frames before as the read length, or 0 before the first (R49). -/
theorem LineHolds.delayed_eq {start st : Stage} {length n : Nat} {u : Nat → Int} {mem : List (Nat × Int)}
    (h : LineHolds start length u n st mem) (one : 1 ≤ length) (fits : length ≤ capacity start.blocks) :
    delayed st.blocks st.proc.line length mem = if length ≤ n then u (n - length) else 0 := by
  unfold delayed
  rw [h.blocks, h.line]
  by_cases past : length ≤ n
  · rw [if_neg (by dsimp only; omega), if_pos past]
    dsimp only
    rw [readPosition_eq fits past]
    exact h.kept (n - length) (by omega) (by omega)
  · rw [if_pos (by dsimp only; omega), if_neg past]

/-- A frame writes its line input to its own position, and to no other of the span. -/
theorem LineHolds.next {start st : Stage} {length n : Nat} {u : Nat → Int} {mem : List (Nat × Int)}
    (h : LineHolds start length u n st mem) (distinct : start.blocks.Nodup) (some : 0 < capacity start.blocks)
    {p : DelayParams} {period : Nat} {x : Int} (settled : frameLength p st.blocks period st.proc.line = length)
    (input : saturate (x + roundDiv (p.feedback * delayed st.blocks st.proc.line length mem) 32768) = u n) :
    LineHolds start length u (n + 1) (delayStep p st period x mem).stage (delayStep p st period x mem).mem := by
  have written : (delayStep p st period x mem).mem =
      memWrite mem (lineAddress start.blocks ((start.proc.line.writePos + n) % capacity start.blocks)) (u n) := by
    rw [← input, ← h.blocks]
    unfold delayStep lineWrite
    dsimp only
    rw [settled, h.line, h.blocks]
  refine ⟨h.blocks, ?_, ?_, fun j before span => ?_⟩
  · unfold delayStep lineWrite
    dsimp only
    rw [settled, h.blocks, h.line, Nat.mod_add_mod]
    dsimp only
    congr 1
    omega
  · rw [written]
    exact wf_memWrite _ _ _ h.wf
  · rw [written, memRead_memWrite _ _ _ h.wf]
    by_cases last : j = n
    · rw [last, if_pos rfl]
    · have earlier : j < n := by omega
      rw [if_neg, h.kept j earlier (by omega)]
      intro same
      exact writePosition_ne earlier span
        (lineAddress_injective distinct (Nat.mod_lt _ some) (Nat.mod_lt _ some) same)

/-- The line of a FIXED stage at its settled length, over a run from a zeroed line. -/
theorem lineHolds_run {p : DelayParams} {period : Nat} {inputs : List Int} {st : Stage} {mem : List (Nat × Int)}
    (mode : p.mode = .fixed) (one : 1 ≤ p.fixedLength) (most : p.fixedLength ≤ p.maxLength)
    (fits : p.fixedLength ≤ 4096 * st.blocks.length) (distinct : st.blocks.Nodup) (empty : st.proc.line.fill = 0)
    (start : st.proc.line.writePos < 4096 * st.blocks.length) (settled : st.proc.line.readLength = some p.fixedLength)
    (wf : Memory.wf mem = true) (n : Nat) :
    LineHolds st p.fixedLength (lineInput p period inputs st mem) n (lineRun p period inputs st mem n).1
      (lineRun p period inputs st mem n).2 := by
  have size := capacity_eq st.blocks
  induction n with
  | zero =>
    have line : st.proc.line = ⟨0, st.proc.line.writePos, some p.fixedLength⟩ := by rw [← empty, ← settled]
    refine ⟨rfl, ?_, wf, fun j none => nomatch none⟩
    rw [Nat.add_zero, Nat.mod_eq_of_lt (size ▸ start), Nat.min_zero]
    exact line
  | succ n ih =>
    have length : frameLength p (lineRun p period inputs st mem n).1.blocks period
        (lineRun p period inputs st mem n).1.proc.line = p.fixedLength :=
      frameLength_settled mode one most (by rw [ih.blocks]; exact fits) (by rw [ih.line]) period
    refine ih.next distinct (by omega) length ?_
    unfold lineInput lineDelayed
    dsimp only
    rw [length]

/-- One frame of a DELAY stage that computes (R46 to R50). -/
theorem runStage_delay {env : FrameInputs} {st : Stage} {p : DelayParams} (kind : st.record.params = .delay p)
    (computes : st.computes = true) (x : Int) (mem : List (Nat × Int)) :
    runStage env st x mem = delayStep p st env.clock.period x mem := by
  unfold runStage computeStage
  rw [if_pos computes, kind]

theorem computes_of {st : Stage} (bypass : st.record.bypass = false) (shed : st.shed = false) : st.computes = true := by
  simp [Stage.computes, bypass, shed]

/-- The delayed sample with its address written out (R46, R49). -/
theorem delayed_eq (blocks : List Nat) (line : LineProc) (length : Nat) (mem : List (Nat × Int)) :
    delayed blocks line length mem =
      let q := (line.writePos + 4096 * blocks.length - length) % (4096 * blocks.length)
      if line.fill < length then 0 else memRead mem (4096 * blocks.getD (q / 4096) 0 + q % 4096) := by
  unfold delayed
  rw [lineAddress_eq, capacity_eq]

theorem lineWrite_eq (blocks : List Nat) (line : LineProc) (length : Nat) (input : Int) (mem : List (Nat × Int)) :
    lineWrite blocks line length input mem =
      (⟨min (4096 * blocks.length) (line.fill + 1), (line.writePos + 1) % (4096 * blocks.length), some length⟩,
        memWrite mem (4096 * blocks.getD (line.writePos / 4096) 0 + line.writePos % 4096) input) := by
  unfold lineWrite
  rw [lineAddress_eq, capacity_eq]

/-- Settles O33: over a run the line holds the line inputs of the frames within its span, and one frame in either mode
is `delayStep` with the line's addresses written out. -/
theorem delayLinesReturnTheirInputAfterTheReadLength : Obligations.DelayLinesReturnTheirInputAfterTheReadLength := by
  constructor
  · intro p st period length mem inputs mode fixed one most fits distinct empty start settled wf
    subst fixed
    refine ⟨lineInput p period inputs st mem, fun n inside => ?_⟩
    dsimp only
    have holds := lineHolds_run (inputs := inputs) (period := period) mode one most fits distinct empty start settled wf n
    have length : frameLength p (lineRun p period inputs st mem n).1.blocks period
        (lineRun p period inputs st mem n).1.proc.line = p.fixedLength :=
      frameLength_settled mode one most (by rw [holds.blocks]; exact fits) (by rw [holds.line]) period
    have sample : lineDelayed p period inputs st mem n =
        if p.fixedLength ≤ n then lineInput p period inputs st mem (n - p.fixedLength) else 0 := by
      rw [← holds.delayed_eq one (capacity_eq st.blocks ▸ fits), ← length]
      rfl
    rw [← sample]
    exact ⟨rfl, delayOutputs_get p period inputs st mem n inside⟩
  · intro p st current env x mem kind bypass shed settled line size at_ period wanted target length d
    have division : wanted = if p.mode = .fixed then p.fixedLength else p.division.frames period :=
      if_congr Iff.rfl rfl (division_frames p.division period).symm
    have target_eq : targetLength p st.blocks period = target := by
      rw [targetLength_eq, ← division]
    have length_eq : length = glide current target := by
      rw [← target_eq]
      exact frameLength_of_set settled p st.blocks period
    refine ⟨fun below => length_eq.trans (glide_below below), fun above => length_eq.trans (glide_above above),
      fun there => ?_, ?_⟩
    · rw [length_eq, ← there]
      exact glide_at current
    · rw [runStage_delay kind (computes_of bypass shed)]
      unfold delayStep
      dsimp only
      rw [delayed_eq, lineWrite_eq]
      rfl

end Sys2Proof.Machine

namespace Sys2Proof.Machine

set_option Elab.async false

/-! ### Contexts that leave (R56, R58, R61, R85) -/

theorem exec_event {e : Event} {s : State} (h : due e s = true) : Host.Outcome.next (attempt e s) =
    (Host.Outcome.next (take e s) : Result) := congrArg Host.Outcome.next (attempt_of_due e s h)

theorem idleCtx_ctx (c : Fin 4) (x : Fin 2) (s : State) (d : Fin 4) (y : Fin 2) :
    (idleCtx c x s).scc.ctx d y = if d = c ∧ y = x then Ctx.empty else s.scc.ctx d y := ctx_putCtx c x _ s d y

theorem cutCtx_ctx (c : Fin 4) (x : Fin 2) (s : State) (d : Fin 4) (y : Fin 2) :
    (cutCtx c x s).scc.ctx d y = if d = c ∧ y = x then (s.scc.ctx c x).toCutting else s.scc.ctx d y :=
  ctx_putCtx c x _ s d y

theorem spillCtx_ctx (c : Fin 4) (x : Fin 2) (s : State) (d : Fin 4) (y : Fin 2) :
    (spillCtx c x s).scc.ctx d y = if d = c ∧ y = x then (s.scc.ctx c x).toSpilling else s.scc.ctx d y :=
  ctx_putCtx c x _ s d y

/-- A context goes to IDLE, its blocks return, and an evaluation is due (R56, R154). -/
theorem idled_idleCtx (c : Fin 4) (x : Fin 2) (s : State) : Idled s (markEvaluation (idleCtx c x s)) c x := by
  refine ⟨(idleCtx_ctx c x s c x).trans (if_pos ⟨rfl, rfl⟩), freeBlocks_perm _ _, rfl, fun d y other => ?_⟩
  exact (idleCtx_ctx c x s d y).trans (if_neg fun here => other (Prod.ext here.1 here.2))

/-- What a tail keeps of its stages: all but the blocks of those that are no spill-flagged DELAY (R56). -/
theorem keepSpill_stages (k : Ctx) : k.keepSpill.stages.map Stage.record = k.stages.map Stage.record ∧
    k.keepSpill.stages.map Stage.proc = k.stages.map Stage.proc ∧
    k.keepSpill.stages.map Stage.blocks = k.stages.map fun st => if st.record.spills then st.blocks else [] := by
  unfold Ctx.keepSpill
  simp only [List.map_map]
  refine ⟨List.map_congr_left fun st _ => ?_, List.map_congr_left fun st _ => ?_, List.map_congr_left fun st _ => ?_⟩
  all_goals
    simp only [Function.comp_apply]
    split
    · rfl
    · rfl

/-- A context that is replaced by its tail, the other blocks being put back (R56). -/
theorem tailKept_of {s t : State} {c : Fin 4} {x : Fin 2} (stages : (t.scc.ctx c x).stages = (s.scc.ctx c x).keepSpill.stages)
    (pan : (t.scc.ctx c x).pan = (s.scc.ctx c x).pan) (scene : (t.scc.ctx c x).scene = (s.scc.ctx c x).scene)
    (free : t.dpl.free = freeBlocks (s.scc.ctx c x).dryBlocks s.dpl.free) : TailKept s t c x := by
  obtain ⟨record, proc, blocks⟩ := keepSpill_stages (s.scc.ctx c x)
  unfold TailKept
  rw [stages, free]
  exact ⟨record, proc, blocks, pan, scene, freeBlocks_perm _ _⟩

/-- An outgoing context whose part has ended goes to SPILLING or to IDLE (R58, R85). The state t may differ from what
that leaves in all but the contexts and the free list. -/
theorem leftFade_of {s t : State} {c : Fin 4} {x : Fin 2} (ctxs : t.scc.ctxs = (leaveFade c x s).scc.ctxs)
    (free : t.dpl.free = (leaveFade c x s).dpl.free) : LeftFade s t c x := by
  have get (d : Fin 4) (y : Fin 2) : t.scc.ctx d y = (leaveFade c x s).scc.ctx d y := congrArg (·[d][y]) ctxs
  cases spills : (s.scc.ctx c x).spills with
  | true =>
    have left : leaveFade c x s = spillCtx c x s := if_pos spills
    rw [left] at get free
    have here : t.scc.ctx c x = (s.scc.ctx c x).toSpilling :=
      (get c x).trans ((spillCtx_ctx c x s c x).trans (if_pos ⟨rfl, rfl⟩))
    refine ⟨fun _ => ?_, fun no => (nomatch spills.symm.trans no), fun d y other => ?_⟩
    · have kept := tailKept_of (s := s) (t := t) (by rw [here]; rfl) (by rw [here]; rfl) (by rw [here]; rfl) free
      rw [here]
      exact ⟨rfl, rfl, rfl, rfl, kept⟩
    · exact (get d y).trans ((spillCtx_ctx c x s d y).trans (if_neg fun at_ => other (Prod.ext at_.1 at_.2)))
  | false =>
    have left : leaveFade c x s = idleCtx c x s := if_neg (by simp [spills])
    rw [left] at get free
    refine ⟨fun no => (nomatch spills.symm.trans no), fun _ => ⟨?_, free ▸ freeBlocks_perm _ _⟩, fun d y other => ?_⟩
    · exact (get c x).trans ((idleCtx_ctx c x s c x).trans (if_pos ⟨rfl, rfl⟩))
    · exact (get d y).trans ((idleCtx_ctx c x s d y).trans (if_neg fun at_ => other (Prod.ext at_.1 at_.2)))

/-! ### Tails (R57 to R61) -/

theorem tailParams_none {st : Stage} (h : st.record.spills = false ∨ st.record.bypass = true ∨ st.shed = true) :
    st.tailParams = none := by
  unfold Stage.tailParams
  split
  · rename_i p kind
    refine if_neg fun runs => ?_
    have spills : st.record.spills = p.spill := by unfold StageRecord.spills; rw [kind]
    rcases h with h | h | h <;> simp_all [Stage.computes]
  · rfl

theorem tailParams_some {st : Stage} {p : DelayParams} (kind : st.record.params = .delay p) (spill : p.spill = true)
    (bypass : st.record.bypass = false) (shed : st.shed = false) : st.tailParams = some p := by
  unfold Stage.tailParams
  rw [kind]
  exact if_pos (by rw [spill, computes_of bypass shed]; rfl)

theorem runTail_skips {st : Stage} (h : st.tailParams = none) (period : Nat) (rest : List Stage)
    (mem : List (Nat × Int)) : runTail period (st :: rest) mem =
      ⟨st :: (runTail period rest mem).stages, (runTail period rest mem).sum, (runTail period rest mem).quiet,
        (runTail period rest mem).mem⟩ := by
  rw [runTail, h]

theorem runTail_runs {st : Stage} {p : DelayParams} (h : st.tailParams = some p) (period : Nat) (rest : List Stage)
    (mem : List (Nat × Int)) : runTail period (st :: rest) mem =
      ⟨(tailStep p st period mem).stage :: (runTail period rest (tailStep p st period mem).mem).stages,
        (tailStep p st period mem).out + (runTail period rest (tailStep p st period mem).mem).sum,
        (tailStep p st period mem).quiet && (runTail period rest (tailStep p st period mem).mem).quiet,
        (runTail period rest (tailStep p st period mem).mem).mem⟩ := by
  rw [runTail, h]

theorem ctxFrame_of_spilling {k : Ctx} (env : FrameInputs) (fade : Fade) (x : Int) (mem : List (Nat × Int))
    (h : k.state = .spilling) : ctxFrame env false fade x k mem = spillFrame env k mem := by
  unfold ctxFrame
  rw [h]
  rfl

theorem ctxFrame_of_cutting {k : Ctx} (env : FrameInputs) (fade : Fade) (x : Int) (mem : List (Nat × Int))
    (h : k.state = .cutting) : ctxFrame env false fade x k mem = cutFrame env k mem := by
  unfold ctxFrame
  rw [h]
  rfl

/-- Settles O44: each event is taken as it falls due, and a tail's frame runs its stages one by one. -/
theorem tailsEndOrAreCut : Obligations.TailsEndOrAreCut := by
  refine ⟨fun c x s frames => ?_, fun env fade z mem => ⟨fun k => ⟨fun state => ?_, fun state => ?_⟩, rfl,
    fun st rest => ⟨fun skips => runTail_skips (tailParams_none skips) _ _ _, fun p kind spill bypass shed => ?_⟩⟩⟩
  · have marks (t : State) (same : t.lif = s.lif) : evaluationEvent t = markEvaluation t :=
      evaluationEvent_of_processing t (by rw [same]; exact frames)
    refine ⟨fun state quiet => ?_, fun state cut => ?_, fun state loud limit => ?_⟩
    · have now : due (.tailEnd c x) s = true := by simp [due, tailEndDue, state, quiet]
      have taken : take (.tailEnd c x) s = markEvaluation (idleCtx c x s) := marks _ rfl
      exact ⟨_, (exec_event now).trans (congrArg Host.Outcome.next taken), idled_idleCtx c x s⟩
    · have now : due (.cutComplete c x) s = true := by simp [due, cutCompleteDue, state, cut]
      have taken : take (.cutComplete c x) s = markEvaluation (idleCtx c x s) := marks _ rfl
      exact ⟨_, (exec_event now).trans (congrArg Host.Outcome.next taken), idled_idleCtx c x s⟩
    · have now : due (.spillLimit c x) s = true := by simp [due, spillLimitDue, state, loud, limit]
      have taken : take (.spillLimit c x) s = markEvaluation (cutCtx c x s) := marks _ rfl
      have here : (markEvaluation (cutCtx c x s)).scc.ctx c x = (s.scc.ctx c x).toCutting :=
        (cutCtx_ctx c x s c x).trans (if_pos ⟨rfl, rfl⟩)
      refine ⟨_, (exec_event now).trans (congrArg Host.Outcome.next taken), by rw [here]; rfl, by rw [here]; rfl,
        tailKept_of (by rw [here]; rfl) (by rw [here]; rfl) (by rw [here]; rfl) rfl, rfl, fun d y other => ?_, rfl, rfl,
        rfl, rfl, rfl, rfl⟩
      exact (cutCtx_ctx c x s d y).trans (if_neg fun at_ => other (Prod.ext at_.1 at_.2))
  · exact (ctxFrame_of_spilling env fade z mem state).trans rfl
  · exact (ctxFrame_of_cutting env fade z mem state).trans rfl
  · intro line length size at_ d r
    rw [runTail_runs (tailParams_some kind spill bypass shed)]
    unfold tailStep
    dsimp only
    rw [delayed_eq, lineWrite_eq]
    rfl

/-! ### Fades (R83 to R85, R159) -/

theorem mem_chains : ∀ c : Fin 4, c ∈ chains := by decide

theorem returnIfDone_of_done {s : State} (fading : s.scc.change = .fading)
    (done : ∀ c : Fin 4, s.scc.fades[c].kind = .none) : returnIfDone s = writeSceneBox (toIdle s) := by
  have all : fadesDone s.scc.fades = true := List.all_eq_true.mpr fun c _ => decide_eq_true (done c)
  exact if_pos (by rw [fading, all]; rfl)

theorem returnIfDone_of_running {s : State} {c : Fin 4} (runs : s.scc.fades[c].kind ≠ .none) : returnIfDone s = s := by
  have some : fadesDone s.scc.fades = false := by
    unfold fadesDone
    rw [List.all_eq_false]
    exact ⟨c, mem_chains c, by simpa using runs⟩
  exact if_neg (by simp [some])

/-- SCC's return to IDLE touches the change, the change in flight and mailbox 6 alone (R85). -/
theorem returnIfDone_leaves (s : State) : returnIfDone s = { s with
    scc := { s.scc with change := (returnIfDone s).scc.change, inFlight := (returnIfDone s).scc.inFlight }
    lct := (returnIfDone s).lct } := by
  unfold returnIfDone
  split
  · rfl
  · rfl

theorem leaveFade_leaves (c : Fin 4) (x : Fin 2) (s : State) : leaveFade c x s = { s with
    scc := { s.scc with ctxs := (leaveFade c x s).scc.ctxs }
    dpl := { s.dpl with free := (leaveFade c x s).dpl.free } } := by
  unfold leaveFade
  split
  · rfl
  · rfl

/-- The chain's fade has ended: its record is at NONE, and SCC is IDLE if it was the last fade of the change (R85). -/
def FadeEnded (s t : State) (c : Fin 4) : Prop :=
  t.scc.fades[c] = ⟨.none, 0, 0, false⟩ ∧ (∀ d : Fin 4, d ≠ c → t.scc.fades[d] = s.scc.fades[d]) ∧
    (s.scc.change = .fading → (∀ d : Fin 4, d ≠ c → s.scc.fades[d].kind = .none) →
      t.scc.change = .idle ∧ t.scc.inFlight = none ∧ t.lct.boxes.scene.fresh = true) ∧
    (∀ d : Fin 4, d ≠ c → s.scc.fades[d].kind ≠ .none → t.scc.change = s.scc.change ∧ t.scc.inFlight = s.scc.inFlight) ∧
    t.scc.scenes = s.scc.scenes ∧ t.scc.live = s.scc.live ∧ t.scc.stack = s.scc.stack ∧ t.dpl.mem = s.dpl.mem ∧
    t.chp = s.chp ∧ t.tfu = s.tfu ∧ t.tun = s.tun ∧ t.ort = s.ort ∧ t.lif = s.lif ∧ t.pending = s.pending

/-- The fade record goes to NONE behind what the outgoing context's part, if it ends with the fade, leaves. -/
theorem fadeEnded_of {s u : State} (c : Fin 4) (left : u = { s with
    scc := { s.scc with ctxs := u.scc.ctxs }, dpl := { s.dpl with free := u.dpl.free }, bgv := u.bgv }) :
    FadeEnded s (returnIfDone (setFade c Fade.rest u)) c := by
  have fades : u.scc.fades = s.scc.fades := by rw [left]
  have change : u.scc.change = s.scc.change := by rw [left]
  have inFlight : u.scc.inFlight = s.scc.inFlight := by rw [left]
  have here : (setFade c Fade.rest u).scc.fades[c] = Fade.rest := upd_self _ _ _
  have other (d : Fin 4) (h : d ≠ c) : (setFade c Fade.rest u).scc.fades[d] = s.scc.fades[d] :=
    (upd_other _ _ h).trans (congrArg (·[d]) fades)
  have leaves := returnIfDone_leaves (setFade c Fade.rest u)
  refine ⟨?_, fun d h => ?_, fun fading last => ?_, fun d h runs => ?_, ?_⟩
  · rw [leaves]; exact here
  · rw [leaves]; exact other d h
  · have done (d : Fin 4) : (setFade c Fade.rest u).scc.fades[d].kind = .none := by
      by_cases h : d = c
      · rw [h, here]; rfl
      · rw [other d h]; exact last d h
    rw [returnIfDone_of_done (s := setFade c Fade.rest u) (change.trans fading) done]
    exact ⟨rfl, rfl, rfl⟩
  · rw [returnIfDone_of_running (c := d) (by rw [other d h]; exact runs)]
    exact ⟨change, inFlight⟩
  · rw [leaves, left]
    exact ⟨rfl, rfl, rfl, rfl, rfl, rfl, rfl, rfl, rfl, rfl⟩

/-- The end of a fade whose outgoing context leaves with it (R85). -/
theorem takeFadeEnd_outgoing {c : Fin 4} {x : Fin 2} {s : State} (frames : s.lif.state.processing = true)
    (outgoing : outgoingAtEnd s.scc.fades[c].kind s.scc.ctxs[c] = some x) : FadeEnded s (takeFadeEnd c s) c ∧
      LeftFade s (takeFadeEnd c s) c x ∧ (takeFadeEnd c s).bgv.evaluate = true := by
  have leaves := leaveFade_leaves c x s
  have event : endPart c (some x) s = markEvaluation (leaveFade c x s) :=
    evaluationEvent_of_processing _ (by rw [leaves]; exact frames)
  have eq : takeFadeEnd c s = returnIfDone (setFade c Fade.rest (markEvaluation (leaveFade c x s))) := by
    unfold takeFadeEnd
    rw [outgoing, event]
  have done := returnIfDone_leaves (setFade c Fade.rest (markEvaluation (leaveFade c x s)))
  rw [← eq] at done
  refine ⟨eq ▸ fadeEnded_of c ?_, leftFade_of (by rw [done]; rfl) (by rw [done]; rfl), by rw [done]; rfl⟩
  show markEvaluation (leaveFade c x s) = _
  rw [leaves]
  rfl

/-- The end of a fade with which no context leaves (R85). -/
theorem takeFadeEnd_alone {c : Fin 4} {s : State} (none : outgoingAtEnd s.scc.fades[c].kind s.scc.ctxs[c] = none) :
    FadeEnded s (takeFadeEnd c s) c ∧ (takeFadeEnd c s).scc.ctxs = s.scc.ctxs ∧ (takeFadeEnd c s).dpl = s.dpl ∧
      (takeFadeEnd c s).bgv = s.bgv := by
  have eq : takeFadeEnd c s = returnIfDone (setFade c Fade.rest s) := by
    unfold takeFadeEnd
    rw [none]
    rfl
  have done := returnIfDone_leaves (setFade c Fade.rest s)
  rw [← eq] at done
  exact ⟨eq ▸ fadeEnded_of c rfl, by rw [done]; rfl, by rw [done]; rfl, by rw [done]; rfl⟩

theorem takeDipHalfway_dipCross {c : Fin 4} {x : Fin 2} {s : State} (frames : s.lif.state.processing = true)
    (dip : s.scc.fades[c].kind = .dipCross) (fading : fadingCtx s.scc.ctxs[c] = some x) : takeDipHalfway c s =
      markEvaluation (setFade c { s.scc.fades[c] with halfTaken := true } (leaveFade c x s)) := by
  have lif : (leaveFade c x s).lif = s.lif := by rw [leaveFade_leaves]
  unfold takeDipHalfway
  rw [dip]
  dsimp only
  rw [fading]
  dsimp only
  rw [evaluationEvent_of_processing]
  rw [setFade_lif, lif, frames]

theorem takeDipHalfway_dipIn {c : Fin 4} {s : State} (frames : s.lif.state.processing = true)
    (dip : s.scc.fades[c].kind = .dipIn) :
    takeDipHalfway c s = markEvaluation (setFade c { s.scc.fades[c] with halfTaken := true } s) := by
  unfold takeDipHalfway
  rw [dip]
  dsimp only
  rw [evaluationEvent_of_processing]
  rw [setFade_lif, frames]

/-- Settles O43: the end of a fade, and the half-way point of a dip, as each falls due. -/
theorem fadesEndAndTheirOutgoingPartsLeave : Obligations.FadesEndAndTheirOutgoingPartsLeave := by
  intro c s frames f ends
  refine ⟨fun x outgoing => ?_, fun alone => ?_, fun half fresh => ⟨fun x dip fading => ?_, fun dip => ?_⟩⟩
  · have now : due (.fadeEnd c) s = true := by
      show f.ended = true
      rcases outgoing with ⟨kind, past, -⟩ | ⟨kind, past, -⟩ | ⟨kind, past, -⟩ <;> simp [Fade.ended, kind, past]
    have leaves : outgoingAtEnd f.kind s.scc.ctxs[c] = some x := by
      rcases outgoing with ⟨kind, -, at_⟩ | ⟨kind, -, at_⟩ | ⟨kind, -, at_⟩ <;> rw [kind] <;> exact at_
    obtain ⟨ended, left, evaluate⟩ := takeFadeEnd_outgoing frames leaves
    exact ⟨takeFadeEnd c s, ⟨exec_event now, ended⟩, left, evaluate⟩
  · have now : due (.fadeEnd c) s = true := by
      show f.ended = true
      rcases alone with ⟨kind, past⟩ | ⟨kind, past⟩ | ⟨kind, past⟩ <;> simp [Fade.ended, kind, past]
    have none : outgoingAtEnd f.kind s.scc.ctxs[c] = none := by
      rcases alone with ⟨kind, -⟩ | ⟨kind, -⟩ | ⟨kind, -⟩ <;> rw [kind] <;> rfl
    obtain ⟨ended, ctxs, dpl, bgv⟩ := takeFadeEnd_alone none
    exact ⟨takeFadeEnd c s, ⟨exec_event now, ended⟩, ctxs, dpl, bgv⟩
  · have now : due (.dipHalfway c) s = true := by
      show (f.kind.holds && 32 ≤ f.k && !f.halfTaken) = true
      simp [dip, FadeKind.holds, half, fresh]
    have leaves := leaveFade_leaves c x s
    have taken : take (.dipHalfway c) s = markEvaluation (setFade c { f with halfTaken := true } (leaveFade c x s)) :=
      takeDipHalfway_dipCross frames dip fading
    refine ⟨_, (exec_event now).trans (congrArg Host.Outcome.next taken), leftFade_of rfl rfl, upd_self _ _ _, ?_, ?_, ?_⟩
    · show { (leaveFade c x s).bgv with evaluate := true } = _
      rw [leaves]
    · show (leaveFade c x s).scc.change = _
      rw [leaves]
    · show (leaveFade c x s).lct = _
      rw [leaves]
  · have now : due (.dipHalfway c) s = true := by
      show (f.kind.holds && 32 ≤ f.k && !f.halfTaken) = true
      simp [dip, FadeKind.holds, half, fresh]
    exact (exec_event now).trans (congrArg Host.Outcome.next (takeDipHalfway_dipIn frames dip))

end Sys2Proof.Machine

namespace Sys2Proof.Machine

set_option Elab.async false

/-! ### Reads of scenes and status (R62, R68, R93, R145) -/

/-- A read that nothing waits before answers its data and consumes the permit alone. -/
theorem exec_read {k : Kind} {tag : Word} {body data : List Word} {s : State} (clear : Clear k s)
    (len : kindAccepts k body.length = true) (unguarded : kindGuarded k = false)
    (h : kindEffect k body (consumePermit (executing s)) = okWith data (consumePermit (executing s))) :
    Host.Outcome.next (arriveParcel { kind := Kind.code k, tag := tag, body := body } (settle s)) =
      (Host.Outcome.next (replied k tag .ok data (consumePermit s)) : Result) :=
  congrArg Host.Outcome.next (arrive_done_of_admitted clear len (admitted_of_unguarded k s unguarded) h)

theorem effReadScene_present {n : Fin 128} {c : Fin 4} {first : Fin 12} {scene : Scene} {s : State}
    (present : s.scc.scenes[n] = some scene) : effReadScene [word n.val, word c.val, word first.val] s =
      okWith (sceneWords scene c first.val) s := by
  have slot : bodyNat [word n.val, word c.val, word first.val] 0 = n.val := word_toNat n.val (by omega)
  have chain : bodyNat [word n.val, word c.val, word first.val] 1 = c.val := word_toNat c.val (by omega)
  have position : bodyNat [word n.val, word c.val, word first.val] 2 = first.val := word_toNat first.val (by omega)
  unfold effReadScene
  rw [slot, chain, position, withIndex_val, withIndex_val, withIndex_val, present]

theorem readRecords_length (stages : Vector StageRecord 12) (first : Nat) :
    (readRecords stages first).length = min 5 (12 - first) := by simp [readRecords]

theorem sceneWords_eq (scene : Scene) (c : Fin 4) (first : Nat) : sceneWords scene c first =
    [word (scene.exponent + if scene.tempo.isSome then 32768 else 0), tempoWord scene.tempo,
      word (scene.sections[c].mode.code + 256 * scene.sections[c].count), signedWord scene.sections[c].pan,
      word (first + 256 * min 5 (12 - first))] ++
      ((scene.sections[c].stages.toList.drop first).take 5).flatMap recordWords := by
  unfold sceneWords
  dsimp only
  rw [readRecords_length]
  rfl

/-! #### The holder of a block (R62) -/

theorem holderByte_free {ctxs : Vector (Vector Ctx 2) 4} {b : Nat}
    (h : ∀ (c : Fin 4) (x : Fin 2), b ∉ ctxs[c][x].blocks) : holderByte ctxs b = 128 := by
  have none : (allCtxs.find? fun cx => ctxs[cx.1][cx.2].blocks.contains b) = none :=
    List.find?_eq_none.mpr fun cx _ => by simpa using h cx.1 cx.2
  unfold holderByte holderOf
  rw [none]

/-- A block that one context holds alone is shown with the first of that context's stages that holds it. -/
theorem holderByte_held {ctxs : Vector (Vector Ctx 2) 4} {b : Nat} {c : Fin 4} {x : Fin 2}
    (held : b ∈ ctxs[c][x].blocks) (alone : ∀ (d : Fin 4) (y : Fin 2), b ∈ ctxs[d][y].blocks → d = c ∧ y = x) :
    holderByte ctxs b =
      32 * c.val + 16 * x.val + ctxs[c][x].stages.findIdx fun st => st.blocks.contains b := by
  unfold holderByte holderOf
  cases found : allCtxs.find? fun cx => ctxs[cx.1][cx.2].blocks.contains b with
  | none => exact absurd held (by simpa using List.find?_eq_none.mp found (c, x) (mem_allCtxs _))
  | some cx =>
    obtain ⟨d, y⟩ := cx
    obtain ⟨rfl, rfl⟩ := alone d y (by simpa using List.find?_some found)
    rfl

theorem mem_blocks_iff (k : Ctx) (b : Nat) : b ∈ k.blocks ↔ ∃ (i : Nat) (st : Stage), k.stages[i]? = some st ∧ b ∈ st.blocks := by
  unfold Ctx.blocks
  rw [List.mem_flatMap]
  constructor
  · rintro ⟨st, mem, holds⟩
    obtain ⟨i, at_⟩ := List.mem_iff_getElem?.mp mem
    exact ⟨i, st, at_, holds⟩
  · rintro ⟨i, st, at_, holds⟩
    exact ⟨st, List.mem_of_getElem? at_, holds⟩

/-- The one stage of a list that holds a block is the first that does. -/
theorem findIdx_holder {stages : List Stage} {b i : Nat} {st : Stage} (at_ : stages[i]? = some st) (holds : b ∈ st.blocks)
    (alone : ∀ (j : Nat) (other : Stage), stages[j]? = some other → b ∈ other.blocks → j = i) :
    (stages.findIdx fun st => st.blocks.contains b) = i := by
  obtain ⟨inside, rfl⟩ := List.getElem?_eq_some_iff.mp at_
  refine (List.findIdx_eq inside).mpr ⟨by simpa using holds, fun j before => ?_⟩
  have short : j < stages.length := before.trans inside
  by_contra other
  have same := alone j stages[j] (List.getElem?_eq_getElem short) (by simpa using other)
  omega

/-! #### The words of a context (R93) -/

theorem marksAt_eq (k : Ctx) (i : Nat) : k.marksAt i =
    if h : i < k.stages.length then k.stages[i].effective.val + (if k.stages[i].shed then 4 else 0) else 0 := by
  unfold Ctx.marksAt
  split
  · rename_i st at_
    obtain ⟨inside, rfl⟩ := List.getElem?_eq_some_iff.mp at_
    rw [dif_pos inside]
    rfl
  · rename_i none
    rw [dif_neg (Nat.not_lt.mpr (List.getElem?_eq_none_iff.mp none))]

theorem fadeWords_eq (f : Fade) : fadeWords f =
    [if f.kind = .none then Config.restFadeLength else word f.length,
      if f.kind = .none then Config.restFadePosition else word f.k] := by
  unfold fadeWords
  split
  · rfl
  · rfl

/-! #### The words of a route (R145, R201) -/

theorem primaryWord_eq (p : Option (Fin 4 × Side)) : primaryWord p = match p with
    | none => 0x8000
    | some p => word (p.1.val + if p.2 = .right then 256 else 0) := by
  rcases p with _ | ⟨c, _ | _⟩
  · rfl
  · rfl
  · rfl

theorem secondaryWord_eq (i : Option (Fin 8)) : secondaryWord i = match i with
    | none => 0x8000
    | some i => word i.val := by
  cases i <;> rfl

/-- Settles O38: each read answers the words of what stands, and each word is that of its fields. -/
theorem readsOfScenesAndStatusChangeNothing : Obligations.ReadsOfScenesAndStatusChangeNothing := by
  refine ⟨fun tag n c first scene s clear present => ?_, fun tag s => ⟨fun clear => ?_, fun clear => ?_, fun clear => ?_,
    fun ctxs b => ?_, fun r => ?_, ?_, rfl, rfl, rfl⟩⟩
  · refine ⟨tempoWord scene.tempo, fun t some => by rw [some]; rfl, ?_⟩
    have read := exec_read (tag := tag) clear rfl rfl
      (effReadScene_present (c := c) (first := first) (s := consumePermit (executing s)) present)
    rw [sceneWords_eq] at read
    exact read
  · exact exec_read clear rfl rfl rfl
  · refine ⟨Config.restFadeLength, Config.restFadePosition, ?_⟩
    intro marks four context chain
    have ctx (k : Ctx) : ctxWords k = context k := by
      unfold ctxWords Ctx.marksWord
      simp only [marksAt_eq]
      rfl
    have words (d : Fin 4) : chainWords s.bgv.bypass[d] s.scc.fades[d] s.scc.ctxs[d] = chain d := by
      unfold chainWords
      rw [fadeWords_eq, ctx, ctx]
      rfl
    have every : (chains.flatMap fun d => chainWords s.bgv.bypass[d] s.scc.fades[d] s.scc.ctxs[d]) =
        chain 0 ++ chain 1 ++ chain 2 ++ chain 3 := by
      rw [List.flatMap_congr fun d _ => words d]
      simp [chains]
    exact exec_read clear rfl rfl (congrArg (okWith · (consumePermit (executing s))) every)
  · exact exec_read clear rfl rfl rfl
  · intro holds
    have held_iff (c : Fin 4) (x : Fin 2) : b ∈ ctxs[c][x].blocks ↔ ∃ i : Nat, holds c x i := mem_blocks_iff _ b
    refine ⟨fun free => holderByte_free fun c x held => ?_, fun c x i held alone => ?_⟩
    · obtain ⟨i, holds⟩ := (held_iff c x).mp held
      exact free c x i holds
    · have one (d : Fin 4) (y : Fin 2) (held : b ∈ ctxs[d][y].blocks) : d = c ∧ y = x := by
        obtain ⟨j, holds⟩ := (held_iff d y).mp held
        obtain ⟨chain, ctx, -⟩ := alone d y j holds
        exact ⟨chain, ctx⟩
      rw [holderByte_held ((held_iff c x).mpr ⟨i, held⟩) one]
      obtain ⟨st, at_, inside⟩ := held
      rw [findIdx_holder at_ inside fun j other there holds => (alone c x j ⟨other, there, holds⟩).2.2]
  · unfold routeWords
    rw [primaryWord_eq, secondaryWord_eq]
    rfl
  · intro claim o
    have claim_eq (source : Source) : claim source = source.claimant + 16 * source.bits := by
      rcases source with (_ | i) | c | ⟨c, side⟩ | i | _
      case chain => cases side <;> rfl
      all_goals rfl
    unfold ownerWord rampWord
    refine ⟨fun out some => ?_, fun none => ?_⟩
    · rw [some, claim_eq, claim_eq]
      exact ⟨congrArg word (by ring), rfl⟩
    · rw [none, claim_eq]

end Sys2Proof.Machine

namespace Sys2Proof.Machine

set_option Elab.async false

/-! ### Loads (R54, R55, R78, R79) -/

theorem allocate_blocks (stages : List Stage) (free : List Nat) : (allocate stages free).1.flatMap Stage.blocks =
    free.take (stages.map fun st => st.record.need).sum := by
  induction stages generalizing free with
  | nil => simp [allocate]
  | cons st rest ih => simp [allocate, ih, List.take_add]

theorem allocate_records (stages : List Stage) (free : List Nat) :
    (allocate stages free).1.map Stage.record = stages.map Stage.record := by
  induction stages generalizing free with
  | nil => rfl
  | cons st rest ih => simp [allocate, ih]

/-- Each stage of an allocation that the free list covers has the blocks that it needs, and is otherwise as it was. -/
theorem allocate_stage (stages : List Stage) (free : List Nat)
    (covered : (stages.map fun st => st.record.need).sum ≤ free.length) : ∀ st ∈ (allocate stages free).1,
      st.blocks.length = st.record.need ∧ ∃ old ∈ stages, st = { old with blocks := st.blocks } := by
  induction stages generalizing free with
  | nil => intro st mem; cases mem
  | cons first rest ih =>
    simp only [List.map_cons, List.sum_cons] at covered
    intro st mem
    rcases List.mem_cons.mp mem with rfl | mem
    · exact ⟨List.length_take_of_le (by omega), first, List.mem_cons_self, rfl⟩
    · obtain ⟨length, old, inRest, eq⟩ := ih (free.drop first.record.need) (by rw [List.length_drop]; omega) st mem
      exact ⟨length, old, List.mem_cons_of_mem _ inRest, eq⟩

/-- A context as a load leaves it: LOADING with its section, zeroed and at its requested values (R79). -/
def Filled (f : InFlight) (c : Fin 4) (k : Ctx) : Prop :=
  k.state = .loading ∧ k.scene = some f.target ∧ k.pan = f.copy.sections[c].pan ∧ k.loadCount = 0 ∧
    k.stages.map Stage.record = f.copy.sections[c].stages.toList.take f.copy.sections[c].count ∧
    ∀ st ∈ k.stages, st.proc = Proc.zero ∧ st.effective = st.record.requested ∧ st.shed = false ∧
      st.blocks.length = st.record.need

theorem need_of_run {t : SceneSection} (run : t.mode = .run) :
    t.need = ((t.records.map Stage.load).map fun st => st.record.need).sum := by
  unfold SceneSection.need
  rw [run, List.map_map]
  rfl

theorem need_of_not_run {t : SceneSection} (other : t.mode ≠ .run) : t.need = 0 := by
  unfold SceneSection.need
  split
  · exact absurd ‹_› other
  · rfl
  · rfl

theorem filled_loadedCtx (f : InFlight) (c : Fin 4) (free : List Nat) (run : f.copy.sections[c].mode = .run)
    (covered : f.copy.sections[c].need ≤ free.length) : Filled f c
      (loadedCtx f f.copy.sections[c] (allocate (f.copy.sections[c].records.map Stage.load) free).1) := by
  refine ⟨rfl, rfl, rfl, rfl, ?_, fun st mem => ?_⟩
  · refine (allocate_records _ _).trans ?_
    rw [List.map_map]
    exact List.map_id _
  · rw [need_of_run run] at covered
    obtain ⟨length, old, inSection, eq⟩ := allocate_stage _ _ covered st mem
    obtain ⟨record, -, rfl⟩ := List.mem_map.mp inSection
    rw [eq]
    exact ⟨rfl, rfl, rfl, by rw [eq] at length; exact length⟩

theorem isRun_iff {t : SceneSection} : t.isRun = true ↔ t.mode = .run := decide_eq_true_iff

/-- What the load of one chain leaves, where its standby context is IDLE and the free list covers its need (R79). -/
theorem loadChain_leaves (f : InFlight) (s : State) (c : Fin 4)
    (idle : f.copy.sections[c].mode = .run → (s.scc.ctx c f.standby[c]).state = .idle)
    (covered : f.copy.sections[c].need ≤ s.dpl.free.length) :
    loadChain f s c = { s with
      scc := { s.scc with ctxs := (loadChain f s c).scc.ctxs }
      dpl := { s.dpl with free := s.dpl.free.drop f.copy.sections[c].need } } ∧
    (f.copy.sections[c].mode = .run → Filled f c ((loadChain f s c).scc.ctx c f.standby[c]) ∧
      ((loadChain f s c).scc.ctx c f.standby[c]).blocks = s.dpl.free.take f.copy.sections[c].need) ∧
    ∀ (d : Fin 4) (y : Fin 2), (d ≠ c ∨ f.copy.sections[c].mode ≠ .run ∨ y ≠ f.standby[c]) →
      (loadChain f s c).scc.ctx d y = s.scc.ctx d y := by
  by_cases run : f.copy.sections[c].mode = .run
  · let r := allocate (f.copy.sections[c].records.map Stage.load) s.dpl.free
    have eq : loadChain f s c = putCtx c f.standby[c] (loadedCtx f f.copy.sections[c] r.1)
        { s with dpl := { s.dpl with free := r.2 } } := 
      if_pos (Bool.and_eq_true_iff.mpr ⟨isRun_iff.mpr run, decide_eq_true (idle run)⟩)
    have here : (loadChain f s c).scc.ctx c f.standby[c] = loadedCtx f f.copy.sections[c] r.1 := by
      rw [eq, ctx_putCtx, if_pos ⟨rfl, rfl⟩]
    refine ⟨?_, fun _ => ⟨?_, ?_⟩, fun d y other => ?_⟩
    · rw [eq, need_of_run run, ← allocate_rest]
      rfl
    · rw [here]
      exact filled_loadedCtx f c _ run covered
    · rw [here, need_of_run run]
      exact allocate_blocks _ _
    · rw [eq, ctx_putCtx, if_neg]
      rintro ⟨rfl, rfl⟩
      exact other.elim (fun h => h rfl) fun h => h.elim (fun h => h run) fun h => h rfl
  · have eq : loadChain f s c = s := 
      if_neg fun due => run (isRun_iff.mp (Bool.and_eq_true_iff.mp due).1)
    rw [eq, need_of_not_run run]
    exact ⟨rfl, fun h => absurd h run, fun _ _ _ => rfl⟩

/-- The blocks that the sections of some chains need. -/
def needOf (f : InFlight) (l : List (Fin 4)) : Nat := (l.map fun c => f.copy.sections[c].need).sum

theorem needOf_chains (f : InFlight) : needOf f chains = f.copy.need := by
  simp [needOf, chains, Scene.need, Nat.add_assoc]

/-- The load of several chains, each visited once: block lists are filled from the front of the free list in turn. -/
theorem foldl_loadChain (f : InFlight) (l : List (Fin 4)) : ∀ s : State, l.Nodup →
    (∀ c ∈ l, f.copy.sections[c].mode = .run → (s.scc.ctx c f.standby[c]).state = .idle) →
    needOf f l ≤ s.dpl.free.length →
    l.foldl (loadChain f) s = { s with
      scc := { s.scc with ctxs := (l.foldl (loadChain f) s).scc.ctxs }
      dpl := { s.dpl with free := s.dpl.free.drop (needOf f l) } } ∧
    (∀ c ∈ l, f.copy.sections[c].mode = .run → Filled f c ((l.foldl (loadChain f) s).scc.ctx c f.standby[c])) ∧
    (∀ (c : Fin 4) (x : Fin 2), (c ∉ l ∨ f.copy.sections[c].mode ≠ .run ∨ x ≠ f.standby[c]) →
      (l.foldl (loadChain f) s).scc.ctx c x = s.scc.ctx c x) ∧
    (l.flatMap fun c => if f.copy.sections[c].mode = .run
      then ((l.foldl (loadChain f) s).scc.ctx c f.standby[c]).blocks else []) = s.dpl.free.take (needOf f l) := by
  induction l with
  | nil => exact fun s _ _ _ => ⟨rfl, fun c none => (nomatch none), fun _ _ _ => rfl, rfl⟩
  | cons c rest ih =>
    intro s nodup idle covered
    obtain ⟨fresh, nodupRest⟩ := List.nodup_cons.mp nodup
    have total : needOf f (c :: rest) = f.copy.sections[c].need + needOf f rest := by simp [needOf]
    rw [total] at covered ⊢
    obtain ⟨eq, filled, others⟩ := loadChain_leaves f s c (idle c List.mem_cons_self) (by omega)
    have free : (loadChain f s c).dpl.free = s.dpl.free.drop f.copy.sections[c].need := by rw [eq]
    obtain ⟨eqRest, filledRest, othersRest, blocksRest⟩ := ih (loadChain f s c) nodupRest
      (fun d mem run => by
        rw [others d _ (Or.inl fun e => fresh (e ▸ mem))]
        exact idle d (List.mem_cons_of_mem _ mem) run)
      (by rw [free, List.length_drop]; omega)
    rw [List.foldl_cons]
    have kept : (rest.foldl (loadChain f) (loadChain f s c)).scc.ctx c f.standby[c] =
        (loadChain f s c).scc.ctx c f.standby[c] := othersRest c _ (Or.inl fresh)
    refine ⟨?_, fun d mem run => ?_, fun d y other => ?_, ?_⟩
    · rw [eqRest, eq]
      dsimp only
      rw [List.drop_drop]
    · rcases List.mem_cons.mp mem with rfl | mem
      · rw [kept]; exact (filled run).1
      · exact filledRest d mem run
    · rcases other with other | other
      · rw [othersRest d y (Or.inl fun mem => other (List.mem_cons_of_mem _ mem)),
          others d y (Or.inl fun e => other (e ▸ List.mem_cons_self))]
      · by_cases here : d = c
        · subst here
          rw [othersRest d y (Or.inr other), others d y (Or.inr other)]
        · rw [othersRest d y (Or.inr other), others d y (Or.inl here)]
    · rw [List.flatMap_cons, blocksRest, kept, free, List.take_add]
      congr 1
      split
      · exact (filled ‹_›).2
      · rw [need_of_not_run ‹_›, List.take_zero]

theorem chains_nodup : chains.Nodup := by decide

/-- The two conditions of R78: every RUN chain's standby context is IDLE, and the free blocks cover the need. -/
theorem loadReady_iff (f : InFlight) (s : State) : loadReady f s = true ↔
    (∀ c : Fin 4, f.copy.sections[c].mode = .run → (s.scc.ctx c f.standby[c]).state = .idle) ∧
      f.copy.need ≤ s.dpl.free.length := by
  unfold loadReady
  rw [Bool.and_eq_true, List.all_eq_true, decide_eq_true_eq]
  refine and_congr_left fun _ => ⟨fun h c run => ?_, fun h c _ => ?_⟩
  · have either := h c (mem_chains c)
    rw [isRun_iff.mpr run] at either
    exact of_decide_eq_true either
  · cases run : f.copy.sections[c].isRun with
    | true => exact decide_eq_true (h c (isRun_iff.mp run))
    | false => rfl

theorem evaluationEventIf_of_processing (p : Bool) (s : State) (frames : s.lif.state.processing = true) :
    evaluationEventIf p s = { s with bgv := { s.bgv with evaluate := p || s.bgv.evaluate } } := by
  cases p
  · rfl
  · exact evaluationEvent_of_processing s frames

theorem loads_of_run {f : InFlight} {c : Fin 4} (run : f.copy.sections[c].mode = .run) : f.loads = true :=
  List.any_eq_true.mpr ⟨c, mem_chains c, decide_eq_true run⟩

/-- The chains loaded, before the change state and mailbox 6 tell of it. -/
def chainsLoaded (f : InFlight) (s : State) : State := chains.foldl (loadChain f) s

/-- What a load start leaves while frames are processed (R78, R79, R154). -/
theorem loadStart_leaves {f : InFlight} {s : State} (frames : s.lif.state.processing = true)
    (ready : loadReady f s = true) : loadStart f s = { s with
      scc := { s.scc with ctxs := (chainsLoaded f s).scc.ctxs, change := .loading }
      dpl := { s.dpl with free := s.dpl.free.drop f.copy.need }
      bgv := { s.bgv with evaluate := f.loads || s.bgv.evaluate }
      lct := { s.lct with boxes := { s.lct.boxes with scene :=
        ⟨{ sceneRecord s with change := .loading }, true⟩ } } } := by
  obtain ⟨idle, covered⟩ := (loadReady_iff f s).mp ready
  obtain ⟨eq, -⟩ := foldl_loadChain f chains s chains_nodup (fun c _ => idle c) (by rw [needOf_chains]; exact covered)
  rw [needOf_chains] at eq
  have lif : (loadChains f s).lif = s.lif := by unfold loadChains; rw [eq]; rfl
  unfold loadStart
  rw [evaluationEventIf_of_processing _ _ (by rw [lif]; exact frames)]
  unfold loadChains chainsLoaded
  rw [eq]
  rfl

/-- A load start on a state that agrees with s in what a load and mailbox 6 tell of, with its change in flight (R79). -/
theorem loaded_loadStart {f : InFlight} {s m : State} (scc : m.scc = { s.scc with change := m.scc.change, inFlight := some f })
    (dpl : m.dpl = s.dpl) (frames : m.lif.state.processing = true) (ready : loadReady f m = true) :
    Loaded f s (loadStart f m) := by
  have eq := loadStart_leaves frames ready
  obtain ⟨idle, covered⟩ := (loadReady_iff f m).mp ready
  obtain ⟨-, filled, others, blocks⟩ :=
    foldl_loadChain f chains m chains_nodup (fun c _ => idle c) (by rw [needOf_chains]; exact covered)
  have ctx (c : Fin 4) (x : Fin 2) : (loadStart f m).scc.ctx c x = (chainsLoaded f m).scc.ctx c x := by
    rw [eq]
    rfl
  have same (c : Fin 4) (x : Fin 2) : m.scc.ctx c x = s.scc.ctx c x := by rw [scc]; rfl
  have free : (loadStart f m).dpl.free = s.dpl.free.drop f.copy.need := by rw [eq, dpl]
  refine ⟨by rw [eq], by rw [eq, scc], fun c run => ?_, fun c x other => ?_, ?_, free, by rw [eq, dpl], fun sorted => ?_, ?_⟩
  · obtain ⟨state, scene, pan, count, records, stages⟩ := filled c (mem_chains c) run
    dsimp only
    rw [ctx]
    refine ⟨state, scene, pan, count, records, stages, ?_⟩
    rw [eq, loads_of_run run]
    rfl
  · rw [ctx, ← same]
    exact others c x (Or.inr other)
  · simp only [ctx]
    rw [needOf_chains, dpl] at blocks
    exact blocks
  · rw [free]
    have whole : (s.dpl.free.take f.copy.need ++ s.dpl.free.drop f.copy.need).Pairwise (· < ·) := by
      rw [List.take_append_drop]; exact sorted
    obtain ⟨-, rest, between⟩ := List.pairwise_append.mp whole
    exact ⟨rest, between⟩
  · rw [eq, scc]
    dsimp only
    unfold sceneRecord
    rw [scc]
    rfl

end Sys2Proof.Machine

namespace Sys2Proof.Machine

set_option Elab.async false

/-! ### The cuts before a load (R61, R77)

A cut moves blocks from a context to the free list and leaves what the free list and the CUTTING contexts hold together to
the blocks of the context alone; so the cuts are told by the set of contexts that they reach. -/

/-- The contexts of a set have been cut, and nothing else has changed. -/
structure CutsMade (s u : State) (cut : Fin 4 × Fin 2 → Bool) : Prop where
  left : u = { s with scc := { s.scc with ctxs := u.scc.ctxs }, dpl := { s.dpl with free := u.dpl.free } }
  ctxs : ∀ (c : Fin 4) (x : Fin 2),
    u.scc.ctx c x = if cut (c, x) then (s.scc.ctx c x).toCutting else s.scc.ctx c x
  free : u.dpl.free.Perm (s.dpl.free ++ allCtxs.flatMap fun cx => if cut cx then (s.scc.ctx cx.1 cx.2).dryBlocks else [])

theorem cutsMade_none (s : State) : CutsMade s s fun _ => false := ⟨rfl, fun _ _ => rfl, by simp [allCtxs]⟩

/-- A cut of one context more. -/
theorem CutsMade.cutCtx {s u : State} {cut : Fin 4 × Fin 2 → Bool} (h : CutsMade s u cut) (cx : Fin 4 × Fin 2)
    (fresh : cut cx = false) : CutsMade s (cutCtx cx.1 cx.2 u) fun d => cut d || d = cx := by
  have here : u.scc.ctx cx.1 cx.2 = s.scc.ctx cx.1 cx.2 := (h.ctxs cx.1 cx.2).trans (if_neg (by simp [fresh]))
  refine ⟨?_, fun c x => ?_, ?_⟩
  · have left := h.left
    show releaseBlocks _ (putCtx _ _ _ u) = _
    rw [left]
    rfl
  · rw [cutCtx_ctx, here, h.ctxs]
    by_cases at_ : (c, x) = cx
    · subst at_
      simp
    · rw [if_neg fun both => at_ (Prod.ext both.1 both.2), decide_eq_false at_, Bool.or_false]
  · let f (d : Fin 4 × Fin 2) : List Nat := if cut d then (s.scc.ctx d.1 d.2).dryBlocks else []
    have replaced := flatMap_replaced f cx (s.scc.ctx cx.1 cx.2).dryBlocks allCtxs allCtxs_nodup (mem_allCtxs cx)
    have none : f cx = [] := if_neg (by simp [fresh])
    have set (d : Fin 4 × Fin 2) : (if (cut d || d = cx) = true then (s.scc.ctx d.1 d.2).dryBlocks else []) =
        if d = cx then (s.scc.ctx cx.1 cx.2).dryBlocks else f d := by
      by_cases at_ : d = cx
      · subst at_
        simp
      · rw [if_neg at_, decide_eq_false at_, Bool.or_false]
    rw [none, List.append_nil] at replaced
    simp only [set]
    have freed : (Machine.cutCtx cx.1 cx.2 u).dpl.free = freeBlocks (u.scc.ctx cx.1 cx.2).dryBlocks u.dpl.free := rfl
    rw [freed, here]
    calc freeBlocks (s.scc.ctx cx.1 cx.2).dryBlocks u.dpl.free
        List.Perm _ ((s.scc.ctx cx.1 cx.2).dryBlocks ++ u.dpl.free) := freeBlocks_perm _ _
        List.Perm _ (u.dpl.free ++ (s.scc.ctx cx.1 cx.2).dryBlocks) := List.perm_append_comm
        List.Perm _ ((s.dpl.free ++ allCtxs.flatMap f) ++ (s.scc.ctx cx.1 cx.2).dryBlocks) := h.free.append_right _
        _ = s.dpl.free ++ (allCtxs.flatMap f ++ (s.scc.ctx cx.1 cx.2).dryBlocks) := List.append_assoc _ _ _
        List.Perm _ _ := replaced.symm.append_left _

/-- The SPILLING contexts of a selection. -/
def spilling (s : State) (select : Fin 4 × Fin 2 → Bool) (cx : Fin 4 × Fin 2) : Bool :=
  (s.scc.ctx cx.1 cx.2).state = .spilling && select cx

theorem spilling_iff {s : State} {select : Fin 4 × Fin 2 → Bool} {cx : Fin 4 × Fin 2} :
    spilling s select cx = true ↔ (s.scc.ctx cx.1 cx.2).state = .spilling ∧ select cx = true := by
  unfold spilling
  rw [Bool.and_eq_true, decide_eq_true_eq]

theorem CutsMade.congr {s u : State} {cut other : Fin 4 × Fin 2 → Bool} (h : CutsMade s u cut)
    (same : ∀ d, cut d = true ↔ other d = true) : CutsMade s u other := by
  have eq : cut = other := funext fun d => Bool.eq_iff_iff.mpr (same d)
  exact eq ▸ h

/-- A cut of one context more, if it spills still: the selection grows by it (R77). -/
theorem CutsMade.select {s u : State} {select : Fin 4 × Fin 2 → Bool} (h : CutsMade s u (spilling s select))
    (cx : Fin 4 × Fin 2) :
    CutsMade s (if (u.scc.ctx cx.1 cx.2).state = .spilling then Machine.cutCtx cx.1 cx.2 u else u)
      (spilling s fun d => select d || d = cx) := by
  have grown (d : Fin 4 × Fin 2) : (spilling s fun d => select d || d = cx) d = true ↔
      spilling s select d = true ∨ (s.scc.ctx cx.1 cx.2).state = .spilling ∧ d = cx := by
    rw [spilling_iff, spilling_iff, Bool.or_eq_true, decide_eq_true_eq, and_or_left]
    exact or_congr_right (and_congr_left fun at_ => by rw [at_])
  cases chosen : spilling s select cx with
  | true =>
    have cut : u.scc.ctx cx.1 cx.2 = (s.scc.ctx cx.1 cx.2).toCutting := (h.ctxs cx.1 cx.2).trans (if_pos chosen)
    rw [if_neg fun spills => by rw [cut] at spills; cases spills]
    refine h.congr fun d => ?_
    rw [grown]
    exact ⟨Or.inl, fun either => either.elim id fun ⟨_, at_⟩ => at_ ▸ chosen⟩
  | false =>
    have here : u.scc.ctx cx.1 cx.2 = s.scc.ctx cx.1 cx.2 := (h.ctxs cx.1 cx.2).trans (if_neg (by simp [chosen]))
    rw [here]
    split
    · rename_i spills
      refine (h.cutCtx cx chosen).congr fun d => ?_
      rw [grown, Bool.or_eq_true, decide_eq_true_eq]
      exact or_congr_right (and_iff_right spills).symm
    · rename_i not
      refine h.congr fun d => ?_
      rw [grown]
      exact (or_iff_left fun both => not both.1).symm

/-- The standby contexts of RUN chains. -/
def standbys (f : InFlight) (cx : Fin 4 × Fin 2) : Bool :=
  f.copy.sections[cx.1].mode = .run && cx.2 = f.standby[cx.1]

theorem standbys_iff {f : InFlight} {c : Fin 4} {x : Fin 2} :
    standbys f (c, x) = true ↔ f.copy.sections[c].mode = .run ∧ x = f.standby[c] := by
  unfold standbys
  rw [Bool.and_eq_true, decide_eq_true_eq, decide_eq_true_eq]

/-- Step 1 of R77 at some chains: the SPILLING standby contexts of those in RUN are cut. -/
theorem foldl_cutStandby (f : InFlight) (s : State) (l : List (Fin 4)) : ∀ (u : State) (select : Fin 4 × Fin 2 → Bool),
    CutsMade s u (spilling s select) →
    CutsMade s (l.foldl (cutStandby f) u) (spilling s fun d => select d || (d.1 ∈ l && standbys f d)) := by
  induction l with
  | nil => exact fun u select h => h.congr fun d => by simp [spilling_iff]
  | cons c rest ih =>
    intro u select h
    rw [List.foldl_cons]
    by_cases run : f.copy.sections[c].mode = .run
    · have step : cutStandby f u c =
          if (u.scc.ctx c f.standby[c]).state = .spilling then Machine.cutCtx c f.standby[c] u else u := by
        unfold cutStandby
        rw [isRun_iff.mpr run, Bool.true_and]
        exact if_congr decide_eq_true_iff rfl rfl
      rw [step]
      refine (ih _ _ (h.select (c, f.standby[c]))).congr fun ⟨d, y⟩ => ?_
      simp only [spilling_iff, Bool.or_eq_true, Bool.and_eq_true, decide_eq_true_eq, standbys_iff, List.mem_cons,
        Prod.mk.injEq]
      by_cases at_ : d = c
      · subst at_
        simp only [run, true_and, true_or]
        tauto
      · simp only [at_, false_and, or_false, false_or]
    · have step : cutStandby f u c = u :=
        if_neg fun due => run (isRun_iff.mp (Bool.and_eq_true_iff.mp due).1)
      rw [step]
      refine (ih u select h).congr fun ⟨d, y⟩ => ?_
      simp only [spilling_iff, Bool.or_eq_true, Bool.and_eq_true, decide_eq_true_eq, standbys_iff, List.mem_cons]
      by_cases at_ : d = c
      · subst at_
        simp only [run, false_and, and_false, or_false]
      · simp only [at_, false_or]

/-! #### The blocks that the free list and the CUTTING contexts hold -/

/-- The blocks that are free or held by CUTTING contexts once the contexts of a set have been cut (R77). -/
def covered (s : State) (cut : Fin 4 × Fin 2 → Bool) : Nat :=
  s.dpl.free.length + (allCtxs.map fun cx =>
    if (s.scc.ctx cx.1 cx.2).state = .cutting ∨ cut cx = true then (s.scc.ctx cx.1 cx.2).blocks.length else 0).sum

theorem isCutting_iff (state : CtxState) : state.isCutting = true ↔ state = .cutting := by cases state <;> decide

theorem CutsMade.covered_eq {s u : State} {select : Fin 4 × Fin 2 → Bool} (h : CutsMade s u (spilling s select)) :
    u.dpl.free.length + heldBlocks CtxState.isCutting u.scc.ctxs = covered s (spilling s select) := by
  have at_ (cx : Fin 4 × Fin 2) : (if (s.scc.ctx cx.1 cx.2).state = .cutting ∨ spilling s select cx = true
      then (s.scc.ctx cx.1 cx.2).blocks.length else 0) =
      (if spilling s select cx then (s.scc.ctx cx.1 cx.2).dryBlocks else []).length +
        if (u.scc.ctx cx.1 cx.2).state.isCutting then (u.scc.ctx cx.1 cx.2).blocks.length else 0 := by
    rw [h.ctxs]
    cases cut : spilling s select cx with
    | true =>
      have split : (s.scc.ctx cx.1 cx.2).dryBlocks.length + (s.scc.ctx cx.1 cx.2).toCutting.blocks.length =
          (s.scc.ctx cx.1 cx.2).blocks.length := by
        rw [← List.length_append]
        exact (dry_and_spill_blocks _).length_eq
      rw [if_pos (Or.inr rfl), if_pos rfl]
      exact split.symm
    | false =>
      simp only [Bool.false_eq_true, or_false, if_false, List.length_nil, Nat.zero_add]
      exact if_congr (isCutting_iff _).symm rfl rfl
  unfold covered heldBlocks
  simp only [at_]
  rw [h.free.length_eq, List.length_append, List.length_flatMap, List.sum_map_add, Nat.add_assoc]
  rfl

/-- Step 2 of R77 over some contexts: they are cut up to the first at which the free blocks and those of CUTTING contexts
cover the need. -/
theorem foldl_cutForNeed (need : Nat) (s : State) (l : List (Fin 4 × Fin 2)) :
    ∀ (u : State) (select : Fin 4 × Fin 2 → Bool), CutsMade s u (spilling s select) →
    ∃ n ≤ l.length,
      CutsMade s (l.foldl (cutForNeed need) u) (spilling s fun d => select d || (l.take n).contains d) ∧
      (∀ m < n, covered s (spilling s fun d => select d || (l.take m).contains d) < need) ∧
      (n < l.length → need ≤ covered s (spilling s fun d => select d || (l.take n).contains d)) := by
  induction l with
  | nil => exact fun u select h => ⟨0, le_refl 0, h.congr fun d => by simp [spilling_iff], fun m none => (nomatch none),
      fun none => nomatch none⟩
  | cons cx rest ih =>
    intro u select h
    have first : (spilling s fun d => select d || ((cx :: rest).take 0).contains d) = spilling s select := by
      funext d
      simp [spilling]
    have more (m : Nat) : (spilling s fun d => select d || ((cx :: rest).take (m + 1)).contains d) =
        spilling s fun d => (select d || d = cx) || (rest.take m).contains d := by
      funext d
      simp only [spilling, List.take_succ_cons, List.contains_cons, Bool.or_assoc, beq_eq_decide]
    rw [List.foldl_cons]
    by_cases enough : need ≤ covered s (spilling s select)
    · have step : cutForNeed need u cx = u := by
        refine if_neg fun due => ?_
        have few := of_decide_eq_true (Bool.and_eq_true_iff.mp due).1
        rw [h.covered_eq] at few
        omega
      obtain ⟨n, -, made, few, -⟩ := ih u select h
      have none : n = 0 := by
        by_contra some
        have lt := few 0 (Nat.pos_of_ne_zero some)
        have same : (spilling s fun d => select d || (rest.take 0).contains d) = spilling s select := by
          funext d
          simp [spilling]
        rw [same] at lt
        omega
      subst none
      rw [step]
      exact ⟨0, Nat.zero_le _, made, fun m none => (nomatch none), fun _ => by rw [first]; exact enough⟩
    · have step : cutForNeed need u cx =
          if (u.scc.ctx cx.1 cx.2).state = .spilling then Machine.cutCtx cx.1 cx.2 u else u := by
        have few : u.dpl.free.length + heldBlocks CtxState.isCutting u.scc.ctxs < need := by
          rw [h.covered_eq]
          omega
        unfold cutForNeed
        rw [decide_eq_true few, Bool.true_and]
        exact if_congr decide_eq_true_iff rfl rfl
      obtain ⟨n, short, made, few, all⟩ := ih _ _ (h.select cx)
      rw [step]
      refine ⟨n + 1, Nat.succ_le_succ short, by rw [more]; exact made, fun m lt => ?_, fun lt => ?_⟩
      · cases m with
        | zero => rw [first]; omega
        | succ m => rw [more]; exact few m (Nat.lt_of_succ_lt_succ lt)
      · rw [more]
        exact all (Nat.lt_of_succ_lt_succ lt)

/-- The contexts that R77 cuts: the SPILLING ones that are standby contexts of RUN chains or among the first of the
order. -/
def cutsAt (f : InFlight) (s : State) (count : Nat) : Fin 4 × Fin 2 → Bool :=
  spilling s fun cx => standbys f cx || (cutOrder.take count).contains cx

/-- The cuts of R77 are the fewest of the order that cover the need, where the tails together cover it. -/
theorem cutsBeforeLoad_made (f : InFlight) (s : State) (fits : f.copy.need ≤ availableBlocks s) : ∃ count ≤ 8,
    CutsMade s (cutsBeforeLoad f s) (cutsAt f s count) ∧ f.copy.need ≤ covered s (cutsAt f s count) ∧
    ∀ m < count, covered s (cutsAt f s m) < f.copy.need := by
  have begun : CutsMade s s (spilling s fun _ => false) := (cutsMade_none s).congr fun d => by simp [spilling_iff]
  have standby : CutsMade s (chains.foldl (cutStandby f) s) (spilling s (standbys f)) :=
    (foldl_cutStandby f s chains s _ begun).congr fun d => by simp [spilling_iff, mem_chains]
  obtain ⟨count, most, made, few, enough⟩ := foldl_cutForNeed f.copy.need s cutOrder _ _ standby
  refine ⟨count, most, made, ?_, few⟩
  rcases Nat.lt_or_eq_of_le most with fewer | all
  · exact enough fewer
  · have every : ∀ cx : Fin 4 × Fin 2, cx ∈ cutOrder := by decide
    have tails : covered s (cutsAt f s count) = availableBlocks s := by
      unfold covered availableBlocks heldBlocks
      congr 2
      refine List.map_congr_left fun cx _ => if_congr ?_ rfl rfl
      rw [tail_iff, cutsAt, spilling_iff, all, List.take_length]
      simp only [List.contains_iff_mem.mpr (every cx), Bool.or_true, and_true]
      exact or_comm
    rw [tails]
    exact fits

end Sys2Proof.Machine

namespace Sys2Proof.Machine

set_option Elab.async false

/-! ### Requests that start (R74 to R80) -/

/-- The change in flight that a request begins (R70, R76). -/
def flightOf (r : Request) (target : Fin 128) (scene : Scene) (s : State) : InFlight :=
  { request := r, target := target, copy := scene, standby := tab fun c => standbyOf s.scc.ctxs[c] }

/-- The state with a change in flight that waits in CUTTING. -/
def withFlight (f : InFlight) (s : State) : State := { s with scc := { s.scc with change := .cutting, inFlight := some f } }

/-- The change as it waits in CUTTING: its cuts made, mailbox 6 written, and an evaluation due where a context was cut. -/
def waitingChange (f : InFlight) (s : State) : State :=
  { s with
    scc := { s.scc with
      ctxs := (cutsBeforeLoad f (withFlight f s)).scc.ctxs, change := .cutting, inFlight := some f }
    dpl := { s.dpl with free := (cutsBeforeLoad f (withFlight f s)).dpl.free }
    bgv := { s.bgv with
      evaluate := decide ((cutsBeforeLoad f (withFlight f s)).scc.ctxs ≠ s.scc.ctxs) || s.bgv.evaluate }
    lct := { s.lct with boxes := { s.lct.boxes with scene := ⟨sceneRecord (withFlight f s), true⟩ } } }

/-- A change begins: it waits in CUTTING, or loads at once where the conditions of R78 hold (R76). -/
theorem beginChange_eq {r : Request} {target : Fin 128} {scene : Scene} {s : State}
    (frames : s.lif.state.processing = true) (fits : scene.need ≤ availableBlocks s) :
    beginChange r target scene s =
      if loadReady (flightOf r target scene s) (waitingChange (flightOf r target scene s) s)
      then loadStart (flightOf r target scene s) (waitingChange (flightOf r target scene s) s)
      else waitingChange (flightOf r target scene s) s := by
  let f := flightOf r target scene s
  obtain ⟨count, -, made, -, -⟩ := cutsBeforeLoad_made f (withFlight f s) fits
  have left := made.left
  have told : evaluationEventIf ((cutsBeforeLoad f (withFlight f s)).scc.ctxs ≠ s.scc.ctxs)
      (writeSceneBox (cutsBeforeLoad f (withFlight f s))) = waitingChange f s := by
    have lif : (cutsBeforeLoad f (withFlight f s)).lif = s.lif := by rw [left]; rfl
    rw [evaluationEventIf_of_processing _ _ (by rw [writeSceneBox_lif, lif]; exact frames)]
    unfold waitingChange
    generalize cutsBeforeLoad f (withFlight f s) = u at *
    rw [left]
    rfl
  have due : loadDue (waitingChange f s) = loadReady f (waitingChange f s) := rfl
  have eq (t : State) (h : evaluationEventIf ((cutsBeforeLoad f (withFlight f s)).scc.ctxs ≠ s.scc.ctxs)
      (writeSceneBox (cutsBeforeLoad f (withFlight f s))) = t) :
      beginChange r target scene s = if loadDue t then loadStart f t else t := h ▸ rfl
  rw [eq _ told, due]

/-- What a change that begins leaves of everything but the contexts and the free list. -/
theorem beginChange_leaves {r : Request} {target : Fin 128} {scene : Scene} {s t : State}
    (frames : s.lif.state.processing = true) (fits : scene.need ≤ availableBlocks s)
    (eq : beginChange r target scene s = t) : t = { s with
      scc := { s.scc with ctxs := t.scc.ctxs, change := t.scc.change, inFlight := some (flightOf r target scene s) }
      dpl := { s.dpl with free := t.dpl.free }
      bgv := { s.bgv with evaluate := t.bgv.evaluate }
      lct := { s.lct with boxes := { s.lct.boxes with scene :=
        ⟨⟨s.scc.live, t.scc.change, some target, s.scc.waiting, s.scc.last, s.scc.stack.length⟩, true⟩ } } } := by
  rw [← eq, beginChange_eq frames fits]
  split
  · rw [loadStart_leaves (f := flightOf r target scene s) (s := waitingChange _ s) frames ‹_›]
    rfl
  · rfl

/-- A request whose checks all pass begins its change (R74). -/
theorem startRequest_passes {r : Request} {n : Fin 128} {scene : Scene} {s : State}
    (target : requestTarget r s.scc.stack = some n) (present : s.scc.scenes[n] = some scene)
    (passes : sceneFailure r n scene s = none) : startRequest r s = (beginChange r n scene s, none) := by
  unfold startRequest
  rw [target]
  dsimp only
  rw [present]
  dsimp only
  rw [passes]

/-- The standby context of a chain: the one that is not LIVE, and of two the IDLE one (R70). -/
theorem standbyOf_live {cs : Vector Ctx 2} {x : Fin 2} (h : liveCtx cs = some x) : standbyOf cs ≠ x := by
  unfold standbyOf
  rw [h]
  dsimp only
  split
  · rename_i zero
    rw [zero]
    decide
  · rename_i other
    exact fun e => other e.symm

theorem standbyOf_none {cs : Vector Ctx 2} (h : liveCtx cs = none) : standbyOf cs =
    if cs[(0 : Fin 2)].state ≠ .idle ∧ cs[(1 : Fin 2)].state = .idle then 1 else 0 := by
  unfold standbyOf
  rw [h]
  dsimp only
  by_cases first : cs[(0 : Fin 2)].state = .idle
  · exact (if_pos first).trans (if_neg fun both => both.1 first).symm
  · by_cases second : cs[(1 : Fin 2)].state = .idle
    · exact ((if_neg first).trans (if_pos second)).trans (if_pos ⟨first, second⟩).symm
    · exact ((if_neg first).trans (if_neg second)).trans (if_neg fun both => second both.2).symm

theorem cutFrom_toCutting (k : Ctx) : CutFrom k k.toCutting := by
  obtain ⟨record, proc, blocks⟩ := keepSpill_stages k
  exact ⟨rfl, rfl, rfl, rfl, record, proc, blocks⟩

/-- SCC's pending slot is empty where it is IDLE and no event has fallen due (R73). -/
theorem waiting_of_quiet {s : State} (calm : quiet s = true) (idle : s.scc.change = .idle) : s.scc.waiting = none := by
  have no : due .pendingStart s = false := not_due_of_quiet s calm _ (by decide)
  have no : (s.scc.change = .idle && s.scc.waiting.isSome) = false := no
  rw [decide_eq_true idle, Bool.true_and] at no
  exact Option.not_isSome_iff_eq_none.mp (by rw [no]; exact Bool.false_ne_true)

theorem requestArrives_of_idle {r : Request} {s : State} (idle : s.scc.change = .idle) (none : s.scc.waiting = none) :
    requestArrives r s = startRequest r s := by
  have still : startIfDue s = s := if_neg (by simp [pendingStartDue, none])
  unfold requestArrives receiveRequest
  rw [still]
  exact if_pos idle

/-- Cuts are an evaluation event, which the load does not take back (R154). -/
theorem beginChange_evaluate {r : Request} {target : Fin 128} {scene : Scene} {s : State}
    (frames : s.lif.state.processing = true) (fits : scene.need ≤ availableBlocks s)
    (cut : (waitingChange (flightOf r target scene s) s).scc.ctxs ≠ s.scc.ctxs) :
    (beginChange r target scene s).bgv.evaluate = true := by
  have told : (waitingChange (flightOf r target scene s) s).bgv.evaluate = true :=
    Bool.or_eq_true_iff.mpr (Or.inl (decide_eq_true cut))
  rw [beginChange_eq frames fits]
  split
  · rw [loadStart_leaves (f := flightOf r target scene s) (s := waitingChange _ s) frames ‹_›]
    exact Bool.or_eq_true_iff.mpr (Or.inr told)
  · exact told

/-! #### The three request parcels (R72) -/

/-- The state in which a parcel's owning block finds the part: the permit consumed, the place of the reply held. -/
def atBlock (s : State) : State := consumePermit (executing s)

/-- A request that passes its checks is answered ACCEPTED, and its change begins (R72, R74). -/
theorem requestAnswer_accepted {r : Request} {n : Fin 128} {scene : Scene} {s : State} (idle : s.scc.change = .idle)
    (none : s.scc.waiting = none) (target : requestTarget r s.scc.stack = some n)
    (present : s.scc.scenes[n] = some scene) (passes : sceneFailure r n scene s = Option.none) :
    requestAnswer r s = ⟨beginChange r n scene s, .accepted, []⟩ := by
  unfold requestAnswer
  rw [requestArrives_of_idle idle none, startRequest_passes target present passes]

/-- A request passes its checks where it names another scene than the live one, or asks for it again (R74). -/
theorem sceneFailure_none {r : Request} {n : Fin 128} {scene : Scene} {s : State}
    (again : s.scc.live ≠ some n ∨ r = .ret ∨ ∃ m, r = .select m true) (trial : trialFits scene s = true)
    (fits : scene.need ≤ availableBlocks s) : sceneFailure r n scene s = none := by
  have covers : ¬availableBlocks s < scene.need := Nat.not_lt.mpr fits
  unfold sceneFailure
  rcases again with live | rfl | ⟨m, rfl⟩
  · simp [trial, covers, live]
  · simp [trial, covers]
  · simp [trial, covers]

/-- The body of each request parcel, with the request that it makes and the scene that it names. -/
inductive Asks (n : Fin 128) (stack : List (Fin 128)) : Kind → List Word → Request → Prop
  | select (reload : Word) : Asks n stack .select [word n.val, reload] (.select n (reload.getLsbD 0))
  | call : Asks n stack .call [word n.val] (.call n)
  | ret (top : stack.head? = some n) : Asks n stack .ret [] .ret

theorem Asks.target {n : Fin 128} {stack : List (Fin 128)} {k : Kind} {body : List Word} {r : Request}
    (h : Asks n stack k body r) : requestTarget r stack = some n := by
  cases h with
  | select _ => rfl
  | call => rfl
  | ret top => exact top

theorem Asks.answer {n : Fin 128} {stack : List (Fin 128)} {k : Kind} {body : List Word} {r : Request}
    (h : Asks n stack k body r) (s : State) : kindEffect k body s = requestAnswer r s := by
  cases h with
  | select reload =>
    have slot : bodyNat [word n.val, reload] 0 = n.val := word_toNat n.val (by omega)
    show effSelect _ s = _
    unfold effSelect
    rw [slot, withIndex_val]
    rfl
  | call =>
    have slot : bodyNat [word n.val] 0 = n.val := word_toNat n.val (by omega)
    show effCall _ s = _
    unfold effCall
    rw [slot, withIndex_val]
  | ret _ => rfl

theorem Asks.accepted {n : Fin 128} {stack : List (Fin 128)} {k : Kind} {body : List Word} {r : Request}
    (h : Asks n stack k body r) : kindAccepts k body.length = true ∧ kindGuarded k = false := by
  cases h with
  | select _ => exact ⟨rfl, rfl⟩
  | call => exact ⟨rfl, rfl⟩
  | ret _ => exact ⟨rfl, rfl⟩

/-- A request parcel that nothing waits before and whose checks pass begins its change (R72, R74). -/
theorem arrive_of_asks {n : Fin 128} {k : Kind} {body : List Word} {r : Request} {tag : Word} {scene : Scene} {s : State}
    (h : Asks n s.scc.stack k body r) (clear : Clear k s) (idle : s.scc.change = .idle)
    (present : s.scc.scenes[n] = some scene) (passes : sceneFailure r n scene (atBlock s) = none) :
    arriveParcel { kind := Kind.code k, tag := tag, body := body } (settle s) =
      replied k tag .accepted [] (setQueue s.lct.queue (beginChange r n scene (atBlock s))) := by
  obtain ⟨len, unguarded⟩ := h.accepted
  rw [arrive_of_admitted k tag body s clear len (admitted_of_unguarded k s unguarded), h.answer]
  have none : s.scc.waiting = none := waiting_of_quiet clear.1 idle
  have answer : requestAnswer r (atBlock s) = ⟨beginChange r n scene (atBlock s), .accepted, []⟩ :=
    requestAnswer_accepted idle none h.target present passes
  rw [show consumePermit (executing s) = atBlock s from rfl, answer]

/-- What a change that begins leaves, in the terms of the cuts of R77 and the conditions of R78. -/
theorem beginChange_cuts {r : Request} {n : Fin 128} {scene : Scene} {s : State}
    (frames : s.lif.state.processing = true) (fits : scene.need ≤ availableBlocks s) :
    ∃ (u : State) (count : Nat), count ≤ 8 ∧ scene.need ≤ covered s (cutsAt (flightOf r n scene s) s count) ∧
      (∀ m < count, covered s (cutsAt (flightOf r n scene s) s m) < scene.need) ∧
      CutsMade s u (cutsAt (flightOf r n scene s) s count) ∧
      (loadReady (flightOf r n scene s) u = false → (beginChange r n scene s).scc.change = .cutting ∧
        (beginChange r n scene s).scc.ctxs = u.scc.ctxs ∧ (beginChange r n scene s).dpl = u.dpl) ∧
      (loadReady (flightOf r n scene s) u = true → Loaded (flightOf r n scene s) u (beginChange r n scene s)) ∧
      ((beginChange r n scene s).scc.change = .cutting ∨ (beginChange r n scene s).scc.change = .loading) ∧
      (u.scc.ctxs ≠ s.scc.ctxs → (beginChange r n scene s).bgv.evaluate = true) := by
  let f := flightOf r n scene s
  obtain ⟨count, most, made, enough, few⟩ := cutsBeforeLoad_made f (withFlight f s) fits
  let cut := cutsBeforeLoad f (withFlight f s)
  let u : State := { s with scc := { s.scc with ctxs := cut.scc.ctxs }, dpl := { s.dpl with free := cut.dpl.free } }
  have eq := beginChange_eq (r := r) (target := n) frames fits
  have ready : loadReady f (waitingChange f s) = loadReady f u := rfl
  refine ⟨u, count, most, enough, few, ⟨rfl, made.ctxs, made.free⟩, fun no => ?_, fun yes => ?_, ?_,
    beginChange_evaluate frames fits⟩
  · rw [eq, if_neg (by rw [ready, no]; exact Bool.false_ne_true)]
    exact ⟨rfl, rfl, rfl⟩
  · rw [eq, if_pos (ready.trans yes)]
    exact loaded_loadStart (s := u) (m := waitingChange f s) rfl rfl frames (ready.trans yes)
  · rw [eq]
    split
    · rw [loadStart_leaves (f := f) (s := waitingChange f s) frames ‹_›]
      exact Or.inr rfl
    · exact Or.inl rfl

/-- Settles O40: the three parcels begin the same change, whose cuts, load and mailbox are those of `beginChange`. -/
theorem startedRequestsTakeTheChangeCopy : Obligations.StartedRequestsTakeTheChangeCopy := by
  intro tag n reload scene s idle frames present trial fits i k r asks clear
  have arrived : exec i s =
      .next (replied k tag .accepted [] (setQueue s.lct.queue (beginChange r n scene (atBlock s)))) := by
    have begins {body : List Word} (h : Asks n s.scc.stack k body r)
        (again : s.scc.live ≠ some n ∨ r = .ret ∨ ∃ m, r = .select m true) :=
      congrArg (Host.Outcome.next : State → Result) (arrive_of_asks (tag := tag) h clear idle present
        (sceneFailure_none again trial fits))
    rcases asks with ⟨same, again⟩ | ⟨same, again⟩ | ⟨same, top⟩
    · cases same
      exact begins (.select reload) (again.elim (fun bit => Or.inr (Or.inr ⟨n, by rw [bit]⟩)) Or.inl)
    · cases same
      exact begins .call (Or.inl again)
    · cases same
      exact begins (.ret top) (Or.inr (Or.inl rfl))
  obtain ⟨u, count, most, enough, few, made, waits, loads, either, evaluate⟩ :=
    beginChange_cuts (r := r) (n := n) (s := atBlock s) frames fits
  have leaves := beginChange_leaves (r := r) (target := n) (s := atBlock s) frames fits rfl
  have none : s.scc.waiting = none := waiting_of_quiet clear.1 idle
  generalize beginChange r n scene (atBlock s) = b at *
  let f := flightOf r n scene (atBlock s)
  let t := setQueue s.lct.queue b
  let v : State := { s with scc := { s.scc with ctxs := u.scc.ctxs }, dpl := { s.dpl with free := u.dpl.free } }
  have bgv : t.bgv = { s.bgv with evaluate := t.bgv.evaluate } := by
    show b.bgv = _
    rw [leaves]
    rfl
  have ctx (c : Fin 4) (x : Fin 2) : v.scc.ctx c x =
      if cutsAt f s count (c, x) then (s.scc.ctx c x).toCutting else s.scc.ctx c x := made.ctxs c x
  have frame : t.scc.inFlight = some f ∧ t.scc.scenes = s.scc.scenes ∧ t.scc.stack = s.scc.stack ∧
      t.scc.live = s.scc.live ∧ t.scc.last = s.scc.last ∧ t.scc.fades = s.scc.fades ∧ t.chp = s.chp ∧ t.tfu = s.tfu ∧
      t.tun = s.tun ∧ t.ort = s.ort ∧ t.lif = s.lif ∧ t.pending = s.pending := by
    show b.scc.inFlight = _ ∧ b.scc.scenes = _ ∧ b.scc.stack = _ ∧ b.scc.live = _ ∧ b.scc.last = _ ∧ b.scc.fades = _ ∧
      b.chp = _ ∧ b.tfu = _ ∧ b.tun = _ ∧ b.ort = _ ∧ b.lif = _ ∧ b.pending = _
    rw [leaves]
    exact ⟨rfl, rfl, rfl, rfl, rfl, rfl, rfl, rfl, rfl, rfl, rfl, rfl⟩
  have lct : t.lct = { s.lct with permit := false, boxes := { s.lct.boxes with scene :=
      ⟨⟨s.scc.live, t.scc.change, some n, Option.none, s.scc.last, s.scc.stack.length⟩, true⟩ } } := by
    show { b.lct with queue := s.lct.queue } = _
    rw [leaves, ← none]
    rfl
  obtain ⟨inFlight, scenes, stack, live, last, fades, chp, tfu, tun, ort, lif, pending⟩ := frame
  refine ⟨t, v, f, count, arrived, inFlight, rfl, rfl, rfl, fun c => ?_,
    ⟨most, enough, few, fun c x => ⟨fun (cut : cutsAt f s count (c, x) = true) => ?_,
      fun (kept : cutsAt f s count (c, x) = false) => ?_⟩, made.free, rfl, fun no => ?_, fun yes => ?_,
      fun ⟨cx, (cut : cutsAt f s count cx = true)⟩ => ?_⟩,
    either, scenes, stack, live, last, fades, bgv, lct, chp, tfu, tun, ort, lif, pending⟩
  · have standby : f.standby[c] = standbyOf s.scc.ctxs[c] := tab_get _ _ _
    rw [standby]
    exact ⟨fun x live => standbyOf_live live, standbyOf_none⟩
  · rw [ctx, if_pos cut]
    exact cutFrom_toCutting _
  · exact (ctx c x).trans (if_neg (by rw [kept]; exact Bool.false_ne_true))
  · have ready : loadReady f u = false := Bool.eq_false_iff.mpr fun yes => no ((loadReady_iff f u).mp yes)
    obtain ⟨change, ctxs, dpl⟩ := waits ready
    rw [made.left] at dpl
    exact ⟨change, ctxs, dpl⟩
  · have loaded := loads ((loadReady_iff f u).mpr yes)
    rw [made.left] at loaded
    exact loaded
  · have moved : u.scc.ctxs ≠ s.scc.ctxs := fun same => by
      have here : (s.scc.ctx cx.1 cx.2).toCutting = s.scc.ctx cx.1 cx.2 :=
        ((ctx cx.1 cx.2).trans (if_pos cut)).symm.trans (congrArg (·[cx.1][cx.2]) same)
      have spills := (spilling_iff.mp cut).1
      rw [← here] at spills
      cases spills
    rw [bgv, show t.bgv.evaluate = true from evaluate moved]

end Sys2Proof.Machine

namespace Sys2Proof.Machine

set_option Elab.async false

/-! ### Load starts, loads that end and pending requests (R48, R73, R78, R80) -/

/-- An event that comes after the context transitions, where none of them has fallen due (log entry 11). -/
theorem attempt_after_contexts {e : Event} {s : State} (calm : ∀ f ∈ contextEvents, due f s = false) (now : due e s = true) :
    attempt e (attemptAll contextEvents s) = take e s := by
  rw [attemptAll_of_quiet _ _ calm, attempt_of_due _ _ now]

theorem setLength_other {st : Stage} (other : ∀ p, st.record.params ≠ .delay p) (period : Nat) :
    st.setLength period = st := by
  unfold Stage.setLength
  split
  · rename_i p kind
    exact absurd kind (other p)
  · rfl

theorem setLength_delay {st : Stage} {p : DelayParams} (kind : st.record.params = .delay p) (period : Nat) :
    st.setLength period = { st with proc := { st.proc with line := { st.proc.line with
      readLength := some (targetLength p st.blocks period) } } } := by
  unfold Stage.setLength
  rw [kind]

/-- The target length with the wanted one by its mode (R47, R98). -/
theorem targetLength_by_mode (p : DelayParams) (blocks : List Nat) (period : Nat) : targetLength p blocks period =
    max 1 (min (min p.maxLength (4096 * blocks.length)) (match p.mode with
      | .fixed => p.fixedLength
      | .sync => period * p.division.ratio.1 / p.division.ratio.2)) := by
  rw [← capacity_eq]
  rfl

/-- Settles O41: a load start is `loadStart`, a load's end sets each read length at its target, and a pending request
starts as it would on the state without it. -/
theorem loadsFillTheStandbyContexts : Obligations.LoadsFillTheStandbyContexts := by
  refine ⟨fun f s calm frames cutting inFlight ready => ?_, fun c x s frames loading counted => ?_,
    fun r s calm idle waiting => ?_⟩
  · have now : due .loadStart s = true := by
      show (s.scc.change = .cutting && _) = true
      rw [decide_eq_true cutting, inFlight]
      exact ready
    have taken : take .loadStart s = loadStart f s := by
      show takeLoadStart s = _
      unfold takeLoadStart
      rw [inFlight]
    have scc : s.scc = { s.scc with change := s.scc.change, inFlight := some f } := by rw [← inFlight]
    have loaded := loaded_loadStart (s := s) scc rfl frames ready
    refine ⟨loadStart f s, congrArg Host.Outcome.next ((attempt_after_contexts calm now).trans taken), loaded, ?_⟩
    rw [loadStart_leaves frames ready]
    exact ⟨rfl, rfl, rfl, rfl, rfl, rfl, rfl, rfl, rfl, rfl, rfl, rfl⟩
  · have now : due (.loadComplete c x) s = true := by simp [due, loadCompleteDue, loading, counted]
    let k := s.scc.ctx c x
    have taken : take (.loadComplete c x) s = markEvaluation
        (putCtx c x { k with state := .ready, stages := k.stages.map (Stage.setLength s.tfu.period) } s) :=
      evaluationEvent_of_processing _ frames
    refine ⟨k.stages.map (Stage.setLength s.tfu.period), (exec_event now).trans (congrArg Host.Outcome.next taken),
      List.length_map _, fun i st at_ => ?_⟩
    rw [List.getElem?_map, at_, Option.map_some]
    refine ⟨fun other => by rw [setLength_other other], fun p kind => ?_⟩
    rw [setLength_delay kind]
    exact congrArg (fun n => some { st with proc := { st.proc with line := { st.proc.line with readLength := some n } } })
      (targetLength_by_mode p st.blocks s.tfu.period)
  · intro u
    have now : due .pendingStart s = true := by simp [due, pendingStartDue, idle, waiting]
    have taken : take .pendingStart s = (startRequest r u).1 := by
      show takePendingStart s = _
      unfold takePendingStart
      rw [waiting]
    have starts : exec .pendingRequestStart s = .next (startRequest r u).1 :=
      congrArg Host.Outcome.next ((attempt_after_contexts calm now).trans taken)
    have arrives : requestArrives r u = startRequest r u := requestArrives_of_idle idle rfl
    refine ⟨by rw [arrives]; exact starts, fun ret empty => ?_, fun n scene select present trial fits frames => ?_⟩
    · subst ret
      rw [starts]
      unfold startRequest
      rw [show requestTarget .ret u.scc.stack = none by show s.scc.stack.head? = none; rw [empty]; rfl]
      rfl
    · have passes : sceneFailure r n scene u = none := sceneFailure_none (Or.inr (Or.inr ⟨n, select⟩)) trial fits
      have target : requestTarget r u.scc.stack = some n := by rw [select]; rfl
      rw [starts, startRequest_passes target present passes]
      have leaves := beginChange_leaves (r := r) (target := n) (s := u) frames fits rfl
      refine ⟨beginChange r n scene u, flightOf r n scene u, rfl, ?_⟩
      rw [leaves]
      exact ⟨rfl, rfl, rfl, rfl, rfl, rfl, rfl, rfl⟩

end Sys2Proof.Machine

namespace Sys2Proof.Machine

set_option Elab.async false

/-! ### Restart: the Scene Controller (R91) -/

/-- Some contexts taken to IDLE one after another. -/
theorem foldl_idleCtx (l : List (Fin 4 × Fin 2)) : ∀ s : State,
    let t := l.foldl (fun u cx => idleCtx cx.1 cx.2 u) s
    SceneOnly s t ∧ t.lct = s.lct ∧ t.scc = { s.scc with ctxs := t.scc.ctxs } ∧
      ∀ (c : Fin 4) (x : Fin 2), t.scc.ctx c x = if (c, x) ∈ l then Ctx.empty else s.scc.ctx c x := by
  induction l with
  | nil => exact fun s => ⟨{}, rfl, rfl, fun c x => by simp⟩
  | cons cx rest ih =>
    intro s
    obtain ⟨only, lct, scc, ctxs⟩ := ih (idleCtx cx.1 cx.2 s)
    have first : SceneOnly s (idleCtx cx.1 cx.2 s) := {}
    refine ⟨first.trans only, lct, scc, fun c x => ?_⟩
    rw [List.foldl_cons, ctxs, idleCtx_ctx]
    by_cases here : (c, x) = cx
    · subst here
      simp
    · have apart : ¬(c = cx.1 ∧ x = cx.2) := fun both => here (Prod.ext both.1 both.2)
      simp [here, apart]

/-- Every context in IDLE and every fade at NONE. -/
def restedCtxs (s : State) : State :=
  let t := allCtxs.foldl (fun u cx => idleCtx cx.1 cx.2 u) s
  { t with scc := { t.scc with fades := Vector.replicate 4 Fade.rest } }

theorem restedCtxs_leaves (s : State) : SceneOnly s (restedCtxs s) ∧ (restedCtxs s).lct = s.lct ∧
    (restedCtxs s).scc = { s.scc with ctxs := (restedCtxs s).scc.ctxs, fades := Vector.replicate 4 Fade.rest } ∧
    ∀ (c : Fin 4) (x : Fin 2), (restedCtxs s).scc.ctx c x = Ctx.empty := by
  obtain ⟨only, lct, scc, ctxs⟩ := foldl_idleCtx allCtxs s
  unfold restedCtxs
  generalize allCtxs.foldl (fun u cx => idleCtx cx.1 cx.2 u) s = t at *
  refine ⟨only.trans {}, lct, ?_, fun c x => (ctxs c x).trans (if_pos (mem_allCtxs (c, x)))⟩
  show { t.scc with fades := Vector.replicate 4 Fade.rest } = _
  rw [scc]

/-- The Scene Controller at rest, before SCENE and mailbox 6 tell of it. -/
def restedScene (s : State) : State :=
  let u := abortWaiting (abortInFlight (restedCtxs s))
  { u with scc := { u.scc with stack := [], live := none } }

/-- The Scene Controller's response to *Restart* but for the evaluation. -/
def sceneAtRest (s : State) : State := raise .scene (writeSceneBox (restedScene s))

theorem sceneOnly_raise (k : NoticeClass) (s : State) : SceneOnly s (raise k s) where
  lif := by simp
  chp := by simp
  mem := by simp
  tfu := by simp
  tun := by simp
  ort := by simp
  bgv := by simp
  pending := by simp
  desk := sameDesk_raise k s
  boxes := by rw [raise_boxes]

theorem sceneAtRest_scc (s : State) : (sceneAtRest s).scc = (restedScene s).scc := by simp [sceneAtRest]

/-- A context has changed its state. -/
def statesMoved (s m : State) : Bool := ctxStates m.scc.ctxs ≠ ctxStates s.scc.ctxs

theorem restartScc_eq (s : State) :
    restartScc s = evaluationEventIf (statesMoved s (sceneAtRest s)) (sceneAtRest s) := by
  unfold statesMoved
  rw [sceneAtRest_scc]
  rfl

/-- What the Scene Controller's response leaves but for the evaluation. -/
structure SceneRested (s m : State) : Prop where
  only : SceneOnly s m
  scc : m.scc = { s.scc with
    ctxs := m.scc.ctxs, fades := Vector.replicate 4 Fade.rest, change := .idle, inFlight := none, waiting := none
    stack := [], live := none, last := m.scc.last }
  ctxs : ∀ (c : Fin 4) (x : Fin 2), m.scc.ctx c x = Ctx.empty
  aborted : Aborted s m
  box : m.lct.boxes.scene = ⟨⟨none, .idle, none, none, m.scc.last, 0⟩, true⟩
  lane : m.lane = ((s.lane.raiseIf (abortsChange s.scc) .scene).raiseIf s.scc.waiting.isSome .scene).raise .scene

theorem sceneAtRest_rested (s : State) : SceneRested s (sceneAtRest s) := by
  obtain ⟨onlyT, lctT, sccT, ctxsT⟩ := restedCtxs_leaves s
  have scc := sceneAtRest_scc s
  have lane : (sceneAtRest s).lane = (abortWaiting (abortInFlight (restedCtxs s))).lane.raise .scene :=
    lane_raise .scene (writeSceneBox (restedScene s))
  have boxes : (sceneAtRest s).lct.boxes = (writeSceneBox (restedScene s)).lct.boxes := raise_boxes .scene _
  have told : SceneOnly (abortWaiting (abortInFlight (restedCtxs s))) (sceneAtRest s) :=
    SceneOnly.trans (t := writeSceneBox (restedScene s)) {} (sceneOnly_raise .scene _)
  have box : (writeSceneBox (restedScene s)).lct.boxes.scene = Box.write (sceneRecord (restedScene s)) := rfl
  have scene : (restedScene s).scc =
    { (abortWaiting (abortInFlight (restedCtxs s))).scc with stack := [], live := none } := rfl
  generalize restedScene s = w at *
  generalize sceneAtRest s = m at *
  generalize restedCtxs s = t at *
  obtain ⟨⟨onlyU, -⟩, sccU, laneU, flight, quiet⟩ := abortInFlight_leaves t
  generalize abortInFlight t = u at *
  obtain ⟨⟨onlyV, -⟩, sccV, laneV, pending, -, same⟩ := abortWaiting_leaves u
  generalize abortWaiting u = v at *
  have laneT : t.lane = s.lane := by unfold State.lane; rw [lctT]
  have inFlight : t.scc.inFlight = s.scc.inFlight := by rw [sccT]
  have change : t.scc.change = s.scc.change := by rw [sccT]
  have last : t.scc.last = s.scc.last := by rw [sccT]
  have aborts : abortsChange t.scc = abortsChange s.scc := by rw [sccT]; rfl
  have waiting : u.scc.waiting = s.scc.waiting := by rw [sccU, sccT]
  have ended : m.scc.last = v.scc.last := by rw [scc, scene]
  rw [waiting] at laneV pending same
  rw [aborts] at laneU quiet
  rw [inFlight, change] at flight
  have rested : m.scc = { s.scc with
      ctxs := m.scc.ctxs, fades := Vector.replicate 4 Fade.rest, change := .idle, inFlight := none, waiting := none
      stack := [], live := none, last := m.scc.last } := by rw [scc, scene, sccV, sccU, sccT]
  refine ⟨onlyT.trans (onlyU.trans (onlyV.trans told)), rested, fun c x => ?ctxs, ⟨by rw [rested], by rw [rested],
    by rw [rested], fun r waits => ended.trans (pending r waits), fun none => ⟨fun f begun early => ?flight,
    fun ends => ?quiet⟩⟩, ?box, ?lane⟩
  case ctxs =>
    have ctxs : m.scc.ctxs = t.scc.ctxs := by rw [scc, scene, sccV, sccU]
    exact (congrArg (·[c][x]) ctxs).trans (ctxsT c x)
  case flight => rw [ended, same none]; exact flight f begun early
  case quiet =>
    rw [ended, same none]
    refine (quiet ?_).1.trans last
    unfold abortsChange
    rcases ends with ends | ends | ends <;> simp [ends]
  case box =>
    rw [boxes, box]
    unfold sceneRecord
    rw [← scc, rested]
    rfl
  case lane => rw [lane, laneV, laneU, laneT]

/-! ### Restart: the evaluation (R154, R155) -/

theorem pass1_of_fits {budget : Nat} {e : Course} (fits : e.set.demand ≤ budget) (fuel : Nat) : pass1 budget fuel e = e := by
  cases fuel with
  | zero => rfl
  | succ fuel => exact if_pos fits

theorem pass2_of_fits {budget : Nat} {e : Course} (fits : e.set.demand ≤ budget) (fuel : Nat) : pass2 budget fuel e = e := by
  cases fuel with
  | zero => rfl
  | succ fuel => exact if_pos fits

theorem pass5At_fits {budget : Nat} {e : Course} (c : Fin 4) (fits : e.set.demand ≤ budget) : pass5At budget e c = e := by
  unfold pass5At
  exact if_pos fits

/-- Where the requested state fits the budget, no pass takes a step (R155). -/
theorem passes_of_fits {budget : Nat} {r : RunSet} (fits : r.demand ≤ budget) : passes budget r = ⟨r, 0, 0, 0, 0⟩ := by
  have start : passes12 budget r = ⟨r, 0, 0, 0, 0⟩ := by
    unfold passes12
    rw [pass1_of_fits fits, pass2_of_fits fits]
  have three : cutOrder.foldl (pass3At budget) ⟨r, 0, 0, 0, 0⟩ = ⟨r, 0, 0, 0, 0⟩ :=
    List.foldl_fixed' (fun cx => (pass3_tries budget).fits ⟨r, 0, 0, 0, 0⟩ cx fits) _
  have four : chainsDown.foldl (pass4At budget) ⟨r, 0, 0, 0, 0⟩ = ⟨r, 0, 0, 0, 0⟩ :=
    List.foldl_fixed' (fun c => (pass4_tries budget).fits ⟨r, 0, 0, 0, 0⟩ c fits) _
  unfold passes
  rw [start, three, four]
  exact List.foldl_fixed' (fun c => pass5At_fits (e := ⟨r, 0, 0, 0, 0⟩) c fits) _

theorem demand_of_empty {r : RunSet} (h : ∀ (c : Fin 4) (x : Fin 2), r.ctxs[c][x] = Ctx.empty) : r.demand = 0 := by
  have none (c : Fin 4) : r.chainCost c = 0 := by
    unfold RunSet.chainCost
    rw [h, h]
    exact ite_self 0
  simp [RunSet.demand, none]

/-- The evaluation of a part whose contexts are all empty takes every mark away (R155). -/
theorem evaluationCourse_of_empty {m : State} (h : ∀ (c : Fin 4) (x : Fin 2), m.scc.ctx c x = Ctx.empty) :
    m.runSet.atRequest.demand = 0 ∧ evaluationCourse m = ⟨m.runSet.atRequest, 0, 0, 0, 0⟩ := by
  have demand : m.runSet.atRequest.demand = 0 := demand_of_empty fun c x => by rw [runSet_ctx, h]; rfl
  exact ⟨demand, passes_of_fits (by rw [demand]; exact Nat.zero_le _)⟩

/-- An evaluation that takes every mark away changes one where there was one. -/
theorem marksChanged_of_cleared {b d : Bgv} (halvings : d.halvings = 0) (sheds : d.sheds = 0)
    (bypass : d.bypass = Vector.replicate 4 false) :
    marksChanged b d = (b.halvings ≠ 0 || b.sheds ≠ 0 || b.bypass ≠ Vector.replicate 4 false) := by
  unfold marksChanged
  rw [halvings, sheds, bypass]
  simp only [ne_comm]

/-- What the evaluation after *Restart* leaves: one mark that it is due while frames are processed, and otherwise no mark
on any chain or stage. -/
structure RestEvaluated (moved : Bool) (m t : State) : Prop where
  moves : MarksMoved m t
  waits : m.lif.state.processing = true → moved = true → t.bgv = { m.bgv with evaluate := true }
  none : moved = false → t.bgv = m.bgv
  now : m.lif.state.processing = false → moved = true → t.bgv = { m.bgv with
      bypass := Vector.replicate 4 false, halvings := 0, sheds := 0, dips := min 255 m.bgv.dips
      cuts := min 255 m.bgv.cuts, requestedDemand := 0, demand := 0, evaluate := false } ∧
    t.lct.boxes.governor = ⟨governorRecord t, true⟩
  kept : ¬(m.lif.state.processing = false ∧ moved = true) →
    t.lct.boxes.governor = m.lct.boxes.governor ∧ marksChanged m.bgv t.bgv = false

theorem evaluateMarks_of_empty {m : State} (ctxs : ∀ (c : Fin 4) (x : Fin 2), m.scc.ctx c x = Ctx.empty)
    (fades : ∀ c : Fin 4, m.scc.fades[c] = Fade.rest) : EvaluationTaken m (evaluateMarks m) ∧
    (evaluateMarks m).bgv = { m.bgv with
      bypass := Vector.replicate 4 false, halvings := 0, sheds := 0, dips := min 255 m.bgv.dips
      cuts := min 255 m.bgv.cuts, requestedDemand := 0, demand := 0, evaluate := false } := by
  refine ⟨evaluateMarks_taken m ⟨fun c x => Or.inr ?_, fades⟩, ?_⟩
  · rw [runSet_ctx, ctxs]
    rfl
  · obtain ⟨demand, course⟩ := evaluationCourse_of_empty ctxs
    rw [evaluateMarks_eq, raiseIf_bgv, course]
    unfold evaluated evaluatedBgv
    dsimp only
    rw [demand]
    rfl

/-- No load starts behind the evaluation where no change is in flight, so out of frames it is the passes alone. -/
theorem evaluationEvent_of_stopped {m : State} (stopped : m.lif.state.processing = false) (idle : m.scc.change = .idle)
    (moves : MarksMoved m (evaluateMarks m)) : evaluationEvent m = evaluateMarks m := by
  have change : (evaluateMarks m).scc.change = .idle := by rw [moves.scc]; exact idle
  have none : loadDue (evaluateMarks m) = false := by simp [loadDue, change]
  unfold evaluationEvent evaluateNow
  dsimp only
  rw [stopped, if_neg Bool.false_ne_true, none, if_neg Bool.false_ne_true]

theorem evaluationEventIf_rest (moved : Bool) {m : State} (ctxs : ∀ (c : Fin 4) (x : Fin 2), m.scc.ctx c x = Ctx.empty)
    (fades : ∀ c : Fin 4, m.scc.fades[c] = Fade.rest) (idle : m.scc.change = .idle) :
    RestEvaluated moved m (evaluationEventIf moved m) := by
  cases moved with
  | false =>
    exact ⟨.refl m, fun _ no => (nomatch no), fun _ => rfl, fun _ no => (nomatch no), fun _ => ⟨rfl, marksChanged_self _⟩⟩
  | true =>
    cases frames : m.lif.state.processing with
    | true =>
      rw [evaluationEventIf_of_processing true m frames]
      have unmarked : marksChanged m.bgv { m.bgv with evaluate := true } = false := marksChanged_self m.bgv
      refine ⟨{ lane := ?_, ctxs := fun _ _ => rfl }, fun _ _ => rfl, fun no => (nomatch no),
        fun no => (nomatch no.symm.trans frames), fun _ => ⟨rfl, unmarked⟩⟩
      exact (congrArg (m.lane.raiseIf · .govern) unmarked.symm : m.lane.raiseIf false .govern = _)
    | false =>
      obtain ⟨taken, bgv⟩ := evaluateMarks_of_empty ctxs fades
      have event : evaluationEventIf true m = evaluateMarks m := evaluationEvent_of_stopped frames idle taken.moves
      rw [event]
      exact ⟨taken.moves, fun yes => (nomatch frames.symm.trans yes), fun no => (nomatch no), fun _ _ => ⟨bgv, taken.box⟩,
        fun no => absurd ⟨frames, rfl⟩ no⟩

/-- Some context is not IDLE. -/
def SomeBusy (s : State) : Prop := ∃ (c : Fin 4) (x : Fin 2), (s.scc.ctx c x).state ≠ .idle

theorem statesMoved_iff {s m : State} (ctxs : ∀ (c : Fin 4) (x : Fin 2), m.scc.ctx c x = Ctx.empty) :
    statesMoved s m = true ↔ SomeBusy s := by
  have state (c : Fin 4) (x : Fin 2) : m.scc.ctxs[c][x].state = .idle := congrArg Ctx.state (ctxs c x)
  unfold statesMoved ctxStates
  rw [decide_eq_true_iff, Ne, List.map_inj_left]
  constructor
  · intro differ
    by_contra none
    exact differ fun cx _ => (state cx.1 cx.2).trans
      (by_contra fun other => none ⟨cx.1, cx.2, fun same => other same.symm⟩)
  · rintro ⟨c, x, busy⟩ same
    exact busy ((same (c, x) (mem_allCtxs (c, x))).symm.trans (state c x))

/-! ### Restart: the tuner (R131) -/

/-- The tuner as *Restart* leaves it. -/
def restartedTun (t : Tun) : Tun := { t with engaged := false, channels := tab fun c => t.channels[c].restart }

theorem restart_eq (k : Channel) : k.restart =
    { k with state := if k.mode = .always then .settling else .off, measure := Measure.empty } := by
  unfold Channel.restart
  cases k.mode <;> rfl

theorem restartedTun_get (t : Tun) (c : Fin 4) : (restartedTun t).channels[c] = t.channels[c].restart := tab_get _ _ _

/-- Some channel is READY, and so leaves it at *Restart* (R129). -/
def someReady (t : Tun) : Bool := chains.any fun c => t.channels[c].state = .ready

theorem readyChanged_restart (k : Channel) : readyChanged k.state k.restart.state = decide (k.state = .ready) := by
  rw [restart_eq]
  unfold readyChanged
  split <;> simp

/-- What the tuner's response leaves: its channels, their mailboxes where they differ, and TUNER once (R131). -/
structure TunerRested (s t : State) : Prop where
  eq : t = { s with lct := t.lct, tun := restartedTun s.tun }
  lane : t.lane = s.lane.raiseIf (someReady s.tun) .tuner
  desk : SameDesk s t
  boxes : t.lct.boxes = { s.lct.boxes with tuner := t.lct.boxes.tuner }
  tuner : ∀ c : Fin 4, t.lct.boxes.tuner[c] =
    if channelDiffers s.tun t.tun c = true then Box.write (tunerRecord c t) else s.lct.boxes.tuner[c]

theorem restartTuner_rested (s : State) : TunerRested s (restartTuner s) := by
  obtain ⟨v, reported, get⟩ := foldl_reportChannel s chains { s with tun := restartedTun s.tun }
  have told : anyReadyChanged s { s with tun := restartedTun s.tun } = someReady s.tun :=
    congrArg chains.any (funext fun c => by rw [restartedTun_get, readyChanged_restart])
  let u : State := withTunerBoxes { s with tun := restartedTun s.tun } v
  have eq : restartTuner s = raiseIf (someReady s.tun) .tuner u := by
    unfold restartTuner reportChannels
    exact congr (congrArg (fun p => raiseIf p .tuner) told) reported
  have whole := raiseIf_eq (someReady s.tun) .tuner u
  have lane := lane_raiseIf (someReady s.tun) .tuner u
  have boxes := raiseIf_boxes (someReady s.tun) .tuner u
  have desk : SameDesk s u := {}
  have desk := desk.trans (sameDesk_raiseIf (someReady s.tun) .tuner u)
  rw [← eq] at whole lane boxes desk
  generalize restartTuner s = t at *
  have tun : t.tun = restartedTun s.tun := by rw [whole]; rfl
  refine ⟨whole, lane, desk, by rw [boxes]; rfl, fun c => ?_⟩
  have record : tunerRecord c t = tunerRecord c { s with tun := restartedTun s.tun } := by unfold tunerRecord; rw [tun]
  rw [boxes, tun, record]
  refine (get c).trans ?_
  simp only [mem_chains, true_and]

/-! ### Restart: the lane

A reply in the queue keeps every notice back, so each class of *Restart* only joins the pending set (R192, R197). -/

theorem Lane.raise_of_queued {l : Lane} (queued : l.queue ≠ []) (k : NoticeClass) :
    l.raise k = { l with notices := l.notices ||| k.bit } :=
  if_neg (by simp [queued])

theorem Lane.raiseIf_of_queued {l : Lane} (queued : l.queue ≠ []) (p : Bool) (k : NoticeClass) :
    l.raiseIf p k = { l with notices := l.notices ||| if p then k.bit else 0 } := by
  cases p with
  | false => simp [Lane.raiseIf]
  | true => exact l.raise_of_queued queued k

/-- The classes of *Restart* in the order they join: SCENE for what is aborted and for the response itself, GOVERN for a
changed mark, TUNER for a channel that leaves READY. -/
def restartLane (aborts waits remarked ready : Bool) (l : Lane) : Lane :=
  ((((l.raiseIf aborts .scene).raiseIf waits .scene).raise .scene).raiseIf remarked .govern).raiseIf ready .tuner

theorem restartLane_eq {l : Lane} (queued : l.queue ≠ []) (none : l.notices = 0) (aborts waits remarked ready : Bool) :
    restartLane aborts waits remarked ready l =
      { l with notices := 0x02 ||| (if ready then 0x08 else 0) ||| (if remarked then 0x10 else 0) } := by
  have bits : ∀ aborts waits remarked ready : Bool,
      0 ||| (if aborts then NoticeClass.scene.bit else 0) ||| (if waits then NoticeClass.scene.bit else 0) |||
        NoticeClass.scene.bit ||| (if remarked then NoticeClass.govern.bit else 0) |||
        (if ready then NoticeClass.tuner.bit else 0) =
      0x02 ||| (if ready then 0x08 else 0) ||| (if remarked then 0x10 else 0) := by decide
  unfold restartLane
  simp only [Lane.raiseIf_of_queued, Lane.raise_of_queued, queued, ne_eq, not_false_eq_true, none]
  rw [← bits aborts waits]

/-! ### Restart: block by block -/

/-- The tempo and the footswitch log as *Restart* leaves them (R103, R112). -/
def forgotten (s : State) : State := { s with tfu := { s.tfu with taps := [], previousTap := none, log := [] } }

/-- What *Restart* does once the pending set is empty. -/
def restarted (s : State) : State := restartTuner (forgotten (restartScc s))

/-- The pending set emptied (R197). -/
def noNotices (s : State) : State := { s with lct := { s.lct with notices := 0 } }

theorem effRestart_eq (s : State) : effRestart s = okWith [] (restarted (noNotices s)) := by
  unfold effRestart restarted noNotices
  dsimp only
  generalize restartScc { s with lct := { s.lct with notices := 0 } } = w
  rfl

theorem okWith_state (data : List Word) (s : State) : (okWith data s).state = s := rfl

/-- What the evaluation leaves of the governor, its mailbox and GOVERN, where it answers the contexts that went to IDLE. -/
structure RestartEvaluated (s t : State) : Prop where
  waits : s.lif.state.processing = true → SomeBusy s → t.bgv = { s.bgv with evaluate := true }
  none : ¬ SomeBusy s → t.bgv = s.bgv
  now : s.lif.state.processing = false ∧ SomeBusy s → t.bgv = { s.bgv with
      bypass := Vector.replicate 4 false, halvings := 0, sheds := 0, dips := min 255 s.bgv.dips
      cuts := min 255 s.bgv.cuts, requestedDemand := 0, demand := 0, evaluate := false } ∧
    t.lct.boxes.governor = ⟨governorRecord t, true⟩
  kept : ¬(s.lif.state.processing = false ∧ SomeBusy s) →
    t.lct.boxes.governor = s.lct.boxes.governor ∧ marksChanged s.bgv t.bgv = false

/-- What *Restart* leaves: the Scene Controller at rest, the evaluation, the tempo, the log and the tuner at their
start. -/
structure Restarted (s t : State) : Prop where
  eq : t = { s with
    lct := t.lct
    dpl := { s.dpl with free := t.dpl.free }
    scc := { s.scc with
      ctxs := t.scc.ctxs, fades := Vector.replicate 4 Fade.rest, change := .idle, inFlight := none, waiting := none
      stack := [], live := none, last := t.scc.last }
    tfu := { s.tfu with taps := [], previousTap := none, log := [] }
    tun := restartedTun s.tun
    bgv := t.bgv }
  ctxs : ∀ (c : Fin 4) (x : Fin 2), t.scc.ctx c x = Ctx.empty
  aborted : Aborted s t
  box : t.lct.boxes.scene = ⟨⟨none, .idle, none, none, t.scc.last, 0⟩, true⟩
  boxes : t.lct.boxes = { s.lct.boxes with
    scene := t.lct.boxes.scene, governor := t.lct.boxes.governor, tuner := t.lct.boxes.tuner }
  tuner : ∀ c : Fin 4, t.lct.boxes.tuner[c] =
    if channelDiffers s.tun t.tun c = true then Box.write (tunerRecord c t) else s.lct.boxes.tuner[c]
  evaluated : RestartEvaluated s t
  lane : t.lane = restartLane (abortsChange s.scc) s.scc.waiting.isSome (marksChanged s.bgv t.bgv) (someReady s.tun) s.lane
  desk : SameDesk s t

theorem restarted_leaves (s : State) : Restarted s (restarted s) := by
  have scene := sceneAtRest_rested s
  have fades (c : Fin 4) : (sceneAtRest s).scc.fades[c] = Fade.rest := by rw [scene.scc]; simp
  have evaluated := evaluationEventIf_rest (statesMoved s (sceneAtRest s)) scene.ctxs fades (by rw [scene.scc])
  rw [← restartScc_eq] at evaluated
  have tuner : TunerRested (forgotten (restartScc s)) (restarted s) := restartTuner_rested _
  generalize sceneAtRest s = m at *
  generalize restartScc s = w at *
  generalize restarted s = t at *
  have moved := statesMoved_iff (s := s) scene.ctxs
  obtain ⟨only, scc, ctxs, aborted, box, laneM⟩ := scene
  obtain ⟨moves, waits, none, now, kept⟩ := evaluated
  obtain ⟨eqT, laneT, deskT, boxesT, channels⟩ := tuner
  have tun : w.tun = s.tun := moves.tun.trans only.tun
  have tfu : w.tfu = s.tfu := moves.tfu.trans only.tfu
  have bgv : t.bgv = w.bgv := by rw [eqT]; rfl
  have sccT : t.scc = w.scc := by rw [eqT]; rfl
  have eq : t = { s with
      lct := t.lct
      dpl := { s.dpl with free := t.dpl.free }
      scc := { s.scc with
        ctxs := t.scc.ctxs, fades := Vector.replicate 4 Fade.rest, change := .idle, inFlight := Option.none
        waiting := Option.none, stack := [], live := Option.none, last := t.scc.last }
      tfu := { s.tfu with taps := [], previousTap := Option.none, log := [] }
      tun := restartedTun s.tun
      bgv := t.bgv } := by
    rw [eqT]
    unfold forgotten
    dsimp only
    rw [moves.lif, moves.chp, moves.dpl, moves.scc, moves.ort, moves.pending, tun, tfu, only.lif, only.chp, only.ort,
      only.pending, ← only.mem, scc]
  have last : t.scc.last = m.scc.last := by rw [sccT, moves.scc]
  have boxesW : w.lct.boxes =
      { s.lct.boxes with scene := m.lct.boxes.scene, governor := w.lct.boxes.governor } :=
    moves.boxes.trans (by rw [only.boxes])
  have sceneT : t.lct.boxes.scene = m.lct.boxes.scene := by
    rw [boxesT]
    show w.lct.boxes.scene = _
    rw [boxesW]
  have governorT : t.lct.boxes.governor = w.lct.boxes.governor := by rw [boxesT]; rfl
  refine ⟨eq, fun c x => ?ctxs, ?aborted, ?box, ?boxes, fun c => ?tuner, ⟨?waits, ?none, ?now, ?kept⟩, ?lane, ?desk⟩
  case ctxs =>
    rw [sccT]
    exact empty_of_atRequest ((moves.ctxs c x).trans (congrArg Ctx.atRequest (ctxs c x)))
  case aborted =>
    unfold Aborted at *
    rw [last, eq]
    exact ⟨rfl, rfl, rfl, aborted.2.2.2⟩
  case box => rw [sceneT, last]; exact box
  case boxes =>
    rw [sceneT, governorT]
    refine boxesT.trans ?_
    show { w.lct.boxes with tuner := t.lct.boxes.tuner } = _
    rw [boxesW]
  case tuner =>
    have same : (forgotten w).lct.boxes.tuner = s.lct.boxes.tuner := by
      show w.lct.boxes.tuner = _
      rw [boxesW]
    rw [channels c, same, show (forgotten w).tun = s.tun from tun]
  case waits =>
    rw [bgv, ← only.bgv, ← only.lif, ← moved]
    exact waits
  case none =>
    rw [bgv, ← only.bgv, ← moved]
    exact fun no => none (Bool.eq_false_of_not_eq_true no)
  case now =>
    rw [bgv, governorT, ← only.bgv, ← only.lif, ← moved]
    rintro ⟨stopped, busy⟩
    obtain ⟨marks, told⟩ := now stopped busy
    refine ⟨marks, told.trans ?_⟩
    rw [eqT]
    rfl
  case kept =>
    rw [bgv, governorT, ← only.bgv, ← only.lif, ← moved]
    exact fun calm => (kept calm).imp_left fun same => same.trans (by rw [only.boxes])
  case lane =>
    have laneW : (forgotten w).lane = w.lane := rfl
    rw [laneT, bgv, ← only.bgv, laneW, moves.lane, laneM, show (forgotten w).tun = s.tun from tun]
    rfl
  case desk =>
    have same : SameDesk w (forgotten w) := {}
    exact only.desk.trans (moves.desk.trans (same.trans deskT))

/-- Every block is free where every context is empty, and the free list then is the whole pool in order (R54). -/
theorem free_of_empty {s : State} (h : PoolOk s) (ctxs : ∀ (c : Fin 4) (x : Fin 2), s.scc.ctx c x = Ctx.empty) :
    s.dpl.free = List.range 48 := by
  obtain ⟨-, once, ascending⟩ := h
  have none : heldList s.scc.ctxs = [] := List.flatMap_eq_nil_iff.mpr fun cx _ => congrArg Ctx.blocks (ctxs cx.1 cx.2)
  rw [none, List.append_nil] at once
  exact once.eq_of_pairwise' ascending List.pairwise_lt_range

/-- Settles O23: each block's response in turn, with the reply already in the queue. -/
theorem restartReturnsRunningStateToItsStart : Obligations.RestartReturnsRunningStateToItsStart := by
  intro tag s clear admitted
  have answered : exec (.restart tag []) s =
      .next (replied .restart tag .ok [] (setQueue s.lct.queue (restarted (noNotices (atBlock s))))) :=
    congrArg (Host.Outcome.next : State → Result)
      (arrive_done_of_admitted clear (by rfl) admitted (effRestart_eq (atBlock s)))
  have pool : PoolOk s → PoolOk (restarted (noNotices (atBlock s))) := fun h => by
    have kept : PoolOk (effRestart (atBlock s)).state := poolOk_stepInvariant.keeps_effRestart h
    rw [effRestart_eq, okWith_state] at kept
    exact kept
  obtain ⟨eq, ctxs, aborted, box, boxes, channels, ⟨waits, none, now, kept⟩, lane, desk⟩ :=
    restarted_leaves (noNotices (atBlock s))
  generalize restarted (noNotices (atBlock s)) = r at *
  let t : State := setQueue s.lct.queue r
  have queued : (noNotices (atBlock s)).lane.queue ≠ [] := List.append_ne_nil_of_right_ne_nil _ (List.cons_ne_nil _ _)
  rw [restartLane_eq queued rfl] at lane
  have notices : t.lct.notices = 0x02 ||| (if someReady s.tun then 0x08 else 0) |||
    (if marksChanged s.bgv r.bgv then 0x10 else 0) := congrArg Lane.notices lane
  have tun : r.tun = restartedTun s.tun := by rw [eq]; rfl
  have frame : r.lif = s.lif ∧ r.chp = s.chp ∧ r.dpl.mem = s.dpl.mem ∧ r.scc.fades = Vector.replicate 4 Fade.rest ∧
      r.scc.stack = [] ∧ r.scc.live = Option.none ∧ r.scc.scenes = s.scc.scenes ∧ r.ort = s.ort ∧ r.pending = s.pending ∧
      r.tfu = { s.tfu with taps := [], previousTap := Option.none, log := [] } := by
    rw [eq]
    exact ⟨rfl, rfl, rfl, rfl, rfl, rfl, rfl, rfl, rfl, rfl⟩
  obtain ⟨lif, chp, mem, fades, stack, live, scenes, ort, pending, tfu⟩ := frame
  have others : r.lct.boxes.tempo = s.lct.boxes.tempo ∧ r.lct.boxes.link = s.lct.boxes.link ∧
      r.lct.boxes.supply = s.lct.boxes.supply ∧ r.lct.boxes.meters = s.lct.boxes.meters := by
    rw [boxes]
    exact ⟨rfl, rfl, rfl, rfl⟩
  have lct : t.lct = { s.lct with permit := false, notices := t.lct.notices, boxes := t.lct.boxes } := by
    have headSent : r.lct.headSent = s.lct.headSent := congrArg Lane.headSent lane
    show { r.lct with queue := s.lct.queue } = _
    rw [lct_of_desk desk, headSent, desk.counters]
    rfl
  refine ⟨t, answered, ctxs, fun c => ?fades, aborted, stack, live, box, fun h => free_of_empty (pool h) ctxs, mem, tfu,
    ?engaged, ?reference, fun c => ⟨channelReported_of (channels c), ?channel⟩, scenes, chp, ort, lif, pending,
    ⟨waits, none, fun stopped => ?now, fun calm => ?kept⟩, lct, others⟩
  case fades =>
    show r.scc.fades[c] = Fade.rest
    rw [fades]
    exact Vector.getElem_replicate _
  case engaged => show r.tun.engaged = false; rw [tun]; rfl
  case reference => show r.tun.reference = s.tun.reference; rw [tun]; rfl
  case channel =>
    show r.tun.channels[c] = _
    rw [tun, restartedTun_get, restart_eq]
  case now =>
    obtain ⟨marks, told⟩ := now stopped
    have changed : marksChanged s.bgv r.bgv =
        (s.bgv.halvings ≠ 0 || s.bgv.sheds ≠ 0 || s.bgv.bypass ≠ Vector.replicate 4 false) := by
      have marks : r.bgv = _ := marks
      exact marksChanged_of_cleared (by rw [marks]) (by rw [marks]) (by rw [marks])
    rw [changed] at notices
    exact ⟨marks, told, notices⟩
  case kept =>
    obtain ⟨governor, unmarked⟩ := kept calm
    have unmarked : marksChanged s.bgv r.bgv = false := unmarked
    rw [unmarked] at notices
    exact ⟨governor, notices.trans (BitVec.or_zero)⟩

end Sys2Proof.Machine

namespace Sys2Proof.Machine

set_option Elab.async false

/-! ### Writes of the scene store (R64 to R67) -/

section
variable {n : Fin 128} {c : Fin 4} (s : State)

theorem effWriteSceneHeader_eq (exponent present tempo : Word) :
    effWriteSceneHeader [word n.val, exponent, present, tempo] s =
      okWith [] (putScene n (some (headerWritten s.scc.scenes[n] (clampNat 6 12 exponent.toNat)
        (if present.getLsbD 0 then some (clampNat 3000 24000 tempo.toNat) else none))) s) := by
  have slot : bodyNat [word n.val, exponent, present, tempo] 0 = n.val := word_toNat n.val (by omega)
  unfold effWriteSceneHeader
  rw [slot, withIndex_val]
  rfl

theorem effEraseScene_eq : effEraseScene [word n.val] s = okWith [] (putScene n none s) := by
  have slot : bodyNat [word n.val] 0 = n.val := word_toNat n.val (by omega)
  unfold effEraseScene
  rw [slot, withIndex_val]

theorem effWriteSection_present {mode pan count : Word} {scene : Scene} {s : State}
    (present : s.scc.scenes[n] = some scene) : effWriteSection [word n.val, word c.val, mode, pan, count] s =
      okWith [] (putScene n (some (scene.putSection c
        (scene.sections[c].rewrite [word n.val, word c.val, mode, pan, count]))) s) := by
  have slot : bodyNat [word n.val, word c.val, mode, pan, count] 0 = n.val := word_toNat n.val (by omega)
  have chain : bodyNat [word n.val, word c.val, mode, pan, count] 1 = c.val := word_toNat c.val (by omega)
  unfold effWriteSection
  rw [slot, chain, withIndex_val, withIndex_val, present]

/-- A run of records that ends within the twelve positions is stored in the section of a present slot (R66). -/
theorem effWriteStages_present {first count : Nat} {words : List Word} {scene : Scene} {s : State}
    (nonempty : 1 ≤ count) (fits : first + count ≤ 12) (length : words.length = 10 * count)
    (present : s.scc.scenes[n] = some scene) : effWriteStages (word n.val :: word c.val :: word first :: words) s =
      okWith [] (putScene n (some (scene.putSection c { scene.sections[c] with
        stages := writeRecords scene.sections[c].stages first count
          (word n.val :: word c.val :: word first :: words) })) s) := by
  let body : List Word := word n.val :: word c.val :: word first :: words
  have slot : bodyNat body 0 = n.val := word_toNat n.val (by omega)
  have chain : bodyNat body 1 = c.val := word_toNat c.val (by omega)
  have position : bodyNat body 2 = (⟨first, by omega⟩ : Fin 12).val := word_toNat first (by omega)
  have records : (body.length - 3) / 10 = count := by
    simp only [body, List.length_cons, length]
    omega
  show effWriteStages body s = _
  unfold effWriteStages
  dsimp only
  rw [slot, chain, position, withIndex_val, withIndex_val, withIndex_val, records, if_neg (Nat.not_lt.mpr fits), present]

end

theorem sectionModeOf_eq (code : Nat) :
    sectionModeOf code = if code = 0 then .hold else if code = 1 then .off else .run := by
  unfold sectionModeOf
  split <;> simp_all

/-- Record j of a run is its ten words, behind the slot, the chain and the first position (R66, R201). -/
theorem recordBody_run (slot chain first : Word) (words : List Word) (j : Nat) :
    recordBody (slot :: chain :: first :: words) j = (words.drop (10 * j)).take 10 := by
  unfold recordBody
  rw [Nat.add_comm 3]
  rfl

/-- Settles O36: the header's slot keeps its sections or takes fresh ones, and an erased slot is absent. -/
theorem headersAndErasuresSetTheSlot : Obligations.HeadersAndErasuresSetTheSlot := by
  constructor
  · intro tag n exponent present tempo s clear adm
    refine ⟨headerWritten s.scc.scenes[n] (clampNat 6 12 exponent.toNat)
      (if present.getLsbD 0 then some (clampNat 3000 24000 tempo.toNat) else none), ?_, ?_, fun old is => ?_,
      fun absent c => ?_, ?_⟩
    · cases s.scc.scenes[n] <;> rfl
    · cases s.scc.scenes[n] <;> rfl
    · rw [is]
      rfl
    · rw [absent]
      exact Vector.getElem_replicate _
    · exact congrArg Host.Outcome.next (arrive_done_of_admitted clear rfl adm (effWriteSceneHeader_eq _ exponent present tempo))
  · intro tag n s clear adm
    exact congrArg Host.Outcome.next (arrive_done_of_admitted clear rfl adm (effEraseScene_eq _))

/-- Settles O37: the section takes its three values or its run of records, and the scene keeps everything else. -/
theorem sectionsAndStagesAreStored : Obligations.SectionsAndStagesAreStored := by
  constructor
  · intro tag n c mode pan count old s clear adm present
    let body : List Word := [word n.val, word c.val, mode, pan, count]
    refine ⟨old.sections[c].rewrite body, sectionModeOf_eq _, rfl, Nat.zero_max _, rfl, ?_⟩
    exact congrArg Host.Outcome.next (arrive_done_of_admitted clear rfl adm (effWriteSection_present present))
  · intro tag n c first count words old s one five fits length clear adm present
    let body : List Word := word n.val :: word c.val :: word first :: words
    have len : kindAccepts .writeStages body.length = true := by
      simp only [body, kindAccepts, List.length_cons, length, Bool.or_eq_true, decide_eq_true_eq]
      omega
    refine ⟨{ old.sections[c] with stages := writeRecords old.sections[c].stages first count body }, rfl, rfl, rfl,
      fun j => ?_, ?_⟩
    · simp [writeRecords, body, recordBody_run]
    · exact congrArg Host.Outcome.next
        (arrive_done_of_admitted clear len adm (effWriteStages_present one fits length present))

end Sys2Proof.Machine

namespace Sys2Proof.Machine

set_option Elab.async false

/-! ### Requests and the place of their reply in the queue (R72, R193)

A request parcel is executed with the place of its reply held in the outbound queue. What it leaves is what the request
leaves without it, since at most SCENE joins, and no notice is due. -/

section
variable (q : List (List Word)) (s : State)

theorem setQueue_setQueue (p : List (List Word)) : setQueue p (setQueue q s) = setQueue p s := rfl

theorem setQueue_self : setQueue s.lct.queue s = s := rfl

theorem cutsBeforeLoad_setQueue (f : InFlight) : cutsBeforeLoad f (setQueue q s) = setQueue q (cutsBeforeLoad f s) := by
  have standby (t : State) (c : Fin 4) : cutStandby f (setQueue q t) c = setQueue q (cutStandby f t c) := by
    unfold cutStandby
    rw [apply_ite (setQueue q)]
    rfl
  have need (t : State) (cx : Fin 4 × Fin 2) :
      cutForNeed f.copy.need (setQueue q t) cx = setQueue q (cutForNeed f.copy.need t cx) := by
    unfold cutForNeed
    rw [apply_ite (setQueue q)]
    rfl
  unfold cutsBeforeLoad
  rw [List.foldl_hom (setQueue q) standby]
  exact List.foldl_hom (setQueue q) need

theorem chainsLoaded_setQueue (f : InFlight) : chainsLoaded f (setQueue q s) = setQueue q (chainsLoaded f s) := by
  refine List.foldl_hom (setQueue q) fun t c => ?_
  unfold loadChain
  rw [apply_ite (setQueue q)]
  rfl

theorem waitingChange_setQueue (f : InFlight) : waitingChange f (setQueue q s) = setQueue q (waitingChange f s) := by
  have cuts : cutsBeforeLoad f (withFlight f (setQueue q s)) = setQueue q (cutsBeforeLoad f (withFlight f s)) :=
    cutsBeforeLoad_setQueue q (withFlight f s) f
  unfold waitingChange
  rw [cuts]
  rfl

variable {s}

theorem loadStart_setQueue {f : InFlight} (frames : s.lif.state.processing = true) (ready : loadReady f s = true) :
    loadStart f (setQueue q s) = setQueue q (loadStart f s) := by
  have queued : loadReady f (setQueue q s) = true := ready
  rw [loadStart_leaves frames ready, loadStart_leaves (s := setQueue q s) frames queued, chainsLoaded_setQueue]
  rfl

theorem beginChange_setQueue {r : Request} {n : Fin 128} {scene : Scene} (frames : s.lif.state.processing = true)
    (fits : scene.need ≤ availableBlocks s) :
    beginChange r n scene (setQueue q s) = setQueue q (beginChange r n scene s) := by
  let f := flightOf r n scene s
  have eq : beginChange r n scene (setQueue q s) = _ := beginChange_eq (s := setQueue q s) frames fits
  have flight : flightOf r n scene (setQueue q s) = f := rfl
  rw [eq, beginChange_eq frames fits, flight, waitingChange_setQueue]
  have same : loadReady f (setQueue q (waitingChange f s)) = loadReady f (waitingChange f s) := rfl
  rw [same]
  split
  · exact loadStart_setQueue q frames ‹_›
  · rfl

end

/-- The class of an ended request joins as it would without the place of the reply, where no notice is due (R192). -/
theorem endRequest_setQueue {q : List (List Word)} {s : State} (queued : q ≠ []) (still : noticeDue s = false)
    (o : SceneOutcome) (r : Request) (n : Option (Fin 128)) :
    setQueue s.lct.queue (endRequest o r n (setQueue q s)) = endRequest o r n s := by
  unfold endRequest
  rw [raise_of_not_due _ _ (noticeDue_of_queued _ queued), raise_of_not_due _ _ (by exact still)]
  rfl

theorem startRequest_empty {r : Request} {s : State} (none : requestTarget r s.scc.stack = none) :
    startRequest r s = (endRequest .empty r Option.none s, some .empty) := by
  unfold startRequest
  rw [none]

/-- The state whose return stack a *Return* to an absent slot has popped (R74). -/
def popped (r : Request) (s : State) : State :=
  { s with scc := { s.scc with stack := if r = .ret then s.scc.stack.tail else s.scc.stack } }

/-- A request for an absent slot, which pops the stack for a *Return* (R74). -/
theorem startRequest_absent {r : Request} {n : Fin 128} {s : State} (target : requestTarget r s.scc.stack = some n)
    (absent : s.scc.scenes[n] = none) :
    startRequest r s = (endRequest .absent r (some n) (popped r s), some .absent) := by
  unfold startRequest
  rw [target]
  dsimp only
  rw [absent]
  cases r <;> rfl

theorem startRequest_fails {r : Request} {n : Fin 128} {scene : Scene} {o : SceneOutcome} {s : State}
    (target : requestTarget r s.scc.stack = some n) (present : s.scc.scenes[n] = some scene)
    (fails : sceneFailure r n scene s = some o) : startRequest r s = (endRequest o r (some n) s, some o) := by
  unfold startRequest
  rw [target]
  dsimp only
  rw [present]
  dsimp only
  rw [fails]

theorem sceneFailure_fits {r : Request} {n : Fin 128} {scene : Scene} {s : State}
    (passes : sceneFailure r n scene s = none) : scene.need ≤ availableBlocks s := by
  simp only [sceneFailure, ite_eq_iff, reduceCtorEq, and_false, false_or] at passes
  exact Nat.not_lt.mp passes.2.2.1

/-- A request that starts leaves with the place of the reply held what it leaves without it. -/
theorem startRequest_setQueue {q : List (List Word)} {r : Request} {s : State} (queued : q ≠ [])
    (still : noticeDue s = false) (either : s.lif.state.processing = true ∨ (startRequest r s).2 ≠ none) :
    setQueue s.lct.queue (startRequest r (setQueue q s)).1 = (startRequest r s).1 ∧
      (startRequest r (setQueue q s)).2 = (startRequest r s).2 := by
  cases target : requestTarget r s.scc.stack with
  | none =>
    rw [startRequest_empty target, startRequest_empty (s := setQueue q s) target]
    exact ⟨endRequest_setQueue queued still _ _ _, rfl⟩
  | some n =>
    cases present : s.scc.scenes[n] with
    | none =>
      rw [startRequest_absent target present, startRequest_absent (s := setQueue q s) target present]
      exact ⟨endRequest_setQueue (s := popped r s) queued still _ _ _, rfl⟩
    | some scene =>
      have same : sceneFailure r n scene (setQueue q s) = sceneFailure r n scene s := rfl
      cases failure : sceneFailure r n scene s with
      | some o =>
        rw [startRequest_fails target present failure,
          startRequest_fails (s := setQueue q s) target present (same.trans failure)]
        exact ⟨endRequest_setQueue queued still _ _ _, rfl⟩
      | none =>
        have starts := startRequest_passes target present failure
        have fits := sceneFailure_fits failure
        have frames : s.lif.state.processing = true := either.resolve_right fun no => no (congrArg Prod.snd starts)
        rw [starts, startRequest_passes (s := setQueue q s) target present (same.trans failure),
          beginChange_setQueue q frames fits, setQueue_setQueue, ← beginChange_setQueue _ frames fits, setQueue_self]
        exact ⟨rfl, rfl⟩

/-- A request that finds SCC busy is none of its checks' concern (R73). -/
theorem receiveRequest_busy {r : Request} {s : State} (busy : s.scc.change ≠ .idle) :
    (s.scc.waiting = none → receiveRequest r s = (writeSceneBox { s with scc := { s.scc with waiting := some r } }, none)) ∧
    ∀ old : Request, s.scc.waiting = some old → receiveRequest r s = (endRequest .superseded old old.names
      (setCounters (fun n => { n with superseded := countUp n.superseded })
        { s with scc := { s.scc with waiting := some r } }), none) := by
  unfold receiveRequest
  rw [if_neg busy]
  exact ⟨fun free => by rw [free], fun old waits => by rw [waits]⟩

/-- A request leaves with the place of its reply held what it leaves without it. -/
theorem receiveRequest_setQueue {q : List (List Word)} {r : Request} {s : State} (queued : q ≠ [])
    (still : noticeDue s = false)
    (either : s.lif.state.processing = true ∨ (s.scc.change = .idle → (startRequest r s).2 ≠ none)) :
    setQueue s.lct.queue (receiveRequest r (setQueue q s)).1 = (receiveRequest r s).1 ∧
      (receiveRequest r (setQueue q s)).2 = (receiveRequest r s).2 := by
  by_cases idle : s.scc.change = .idle
  · have starts (u : State) (h : u.scc.change = .idle) : receiveRequest r u = startRequest r u := if_pos h
    rw [starts s idle, starts (setQueue q s) idle]
    exact startRequest_setQueue queued still (either.imp id fun h => h idle)
  · obtain ⟨free, taken⟩ := receiveRequest_busy (r := r) idle
    obtain ⟨freeQ, takenQ⟩ := receiveRequest_busy (r := r) (s := setQueue q s) idle
    cases waits : s.scc.waiting with
    | none =>
      rw [free waits, freeQ waits]
      exact ⟨rfl, rfl⟩
    | some old =>
      rw [taken old waits, takenQ old waits]
      exact ⟨endRequest_setQueue (s := setCounters (fun n => { n with superseded := countUp n.superseded })
        { s with scc := { s.scc with waiting := some r } }) queued still _ _ _, rfl⟩

/-! #### The three request parcels -/

/-- The three request parcels on a scene, with their kinds and the requests that they make (R72). -/
def requestParcels (tag : Word) (n : Fin 128) (reload : Word) : List (Instr × Kind × Request) :=
  [(.select tag [word n.val, reload], .select, .select n (reload.getLsbD 0)), (.call tag [word n.val], .call, .call n),
    (.ret tag [], .ret, .ret)]

/-- The code that answers a request: ACCEPTED, or that of the check that failed (R72). -/
def answerCode (o : Option SceneOutcome) : Code := (o.map SceneOutcome.result).getD .accepted

theorem requestAnswer_eq (r : Request) (s : State) :
    requestAnswer r s = ⟨(requestArrives r s).1, answerCode (requestArrives r s).2, []⟩ := by
  unfold requestAnswer answerCode
  dsimp only
  split
  · rename_i none; rw [none]; rfl
  · rename_i o some; rw [some]; rfl

/-- A request parcel that nothing waits before is answered by what its request leaves. -/
theorem exec_requestParcel {tag : Word} {n : Fin 128} {reload : Word} {i : Instr} {k : Kind} {r : Request} {s : State}
    (mem : (i, k, r) ∈ requestParcels tag n reload) (clear : Clear k s) : exec i s =
      .next (replied k tag (answerCode (requestArrives r (atBlock s)).2) []
        (setQueue s.lct.queue (requestArrives r (atBlock s)).1)) := by
  have arrives {body : List Word} (len : kindAccepts k body.length = true) (unguarded : kindGuarded k = false)
      (effect : kindEffect k body (atBlock s) = requestAnswer r (atBlock s)) :
      arriveParcel { kind := Kind.code k, tag := tag, body := body } (settle s) =
        replied k tag (answerCode (requestArrives r (atBlock s)).2) []
          (setQueue s.lct.queue (requestArrives r (atBlock s)).1) := by
    rw [arrive_of_admitted k tag body s clear len (admitted_of_unguarded k s unguarded)]
    rw [show consumePermit (executing s) = atBlock s from rfl, effect, requestAnswer_eq]
  simp only [requestParcels, List.mem_cons, Prod.mk.injEq, List.not_mem_nil, or_false] at mem
  rcases mem with ⟨rfl, rfl, rfl⟩ | ⟨rfl, rfl, rfl⟩ | ⟨rfl, rfl, rfl⟩
  · exact congrArg Host.Outcome.next (arrives rfl rfl ((Asks.select (stack := []) reload).answer _))
  · exact congrArg Host.Outcome.next (arrives rfl rfl ((Asks.call (stack := [])).answer _))
  · exact congrArg Host.Outcome.next (arrives rfl rfl rfl)

/-- A quiet state has no pending request that is to start. -/
theorem pendingStart_of_quiet {s : State} (calm : quiet s = true) : pendingStartDue s = false :=
  not_due_of_quiet s calm .pendingStart (by decide)

theorem noticeDue_of_quiet {s : State} (calm : quiet s = true) : noticeDue s = false :=
  not_due_of_quiet s calm .notice (by decide)

theorem startIfDue_of_not {s : State} (no : pendingStartDue s = false) : startIfDue s = s :=
  if_neg (by rw [no]; exact Bool.false_ne_true)

/-- The same parcel, answered by what its request leaves of the state without the place of the reply: always where frames
are processed or SCC is busy, and otherwise where a check fails. -/
theorem exec_requestParcel_received {tag : Word} {n : Fin 128} {reload : Word} {i : Instr} {k : Kind} {r : Request}
    {s : State} (mem : (i, k, r) ∈ requestParcels tag n reload) (clear : Clear k s)
    (either : s.lif.state.processing = true ∨ (s.scc.change = .idle → (startRequest r (consumePermit s)).2 ≠ none)) :
    exec i s = .next (replied k tag (answerCode (receiveRequest r (consumePermit s)).2) []
      (receiveRequest r (consumePermit s)).1) := by
  have no : pendingStartDue s = false := pendingStart_of_quiet clear.1
  have no : pendingStartDue (atBlock s) = false := no
  have still : noticeDue s = false := noticeDue_of_quiet clear.1
  have arrives : requestArrives r (atBlock s) = receiveRequest r (setQueue (s.lct.queue ++ [[]]) (consumePermit s)) := by
    unfold requestArrives
    rw [startIfDue_of_not no]
    rfl
  obtain ⟨left, outcome⟩ := receiveRequest_setQueue (q := s.lct.queue ++ [[]]) (s := consumePermit s) (by simp)
    still either
  rw [exec_requestParcel mem clear, arrives, outcome]
  exact congrArg (fun t => Host.Outcome.next (replied k tag _ [] t)) left

/-- A request parcel whose request fails a check at its start (R74). -/
theorem exec_requestParcel_failed {tag : Word} {n : Fin 128} {reload : Word} {i : Instr} {k : Kind} {r : Request}
    {s t : State} {o : SceneOutcome} (mem : (i, k, r) ∈ requestParcels tag n reload) (clear : Clear k s)
    (idle : s.scc.change = .idle) (fails : startRequest r (consumePermit s) = (t, some o)) :
    exec i s = .next (replied k tag o.result [] t) := by
  have starts : receiveRequest r (consumePermit s) = (t, some o) := (if_pos idle).trans fails
  rw [exec_requestParcel_received mem clear (Or.inr fun _ => by rw [fails]; exact Option.some_ne_none o), starts]
  rfl

/-! ### The checks of a request and its trial (R74, R75, R161) -/

/-- A request asks for another scene than the live one, or asks for it again (R74). -/
def AsksAnew (r : Request) (n : Fin 128) (s : State) : Prop :=
  s.scc.live ≠ some n ∨ r = .ret ∨ ∃ m, r = .select m true

theorem sceneFailure_budget {r : Request} {n : Fin 128} {scene : Scene} {s : State} (anew : AsksAnew r n s)
    (trial : trialFits scene s = false) : sceneFailure r n scene s = some .budget := by
  unfold sceneFailure
  rcases anew with live | rfl | ⟨m, rfl⟩
  · simp [trial, live]
  · simp [trial]
  · simp [trial]

theorem sceneFailure_pool {r : Request} {n : Fin 128} {scene : Scene} {s : State} (anew : AsksAnew r n s)
    (trial : trialFits scene s = true) (lacks : availableBlocks s < scene.need) :
    sceneFailure r n scene s = some .pool := by
  unfold sceneFailure
  rcases anew with live | rfl | ⟨m, rfl⟩
  · simp [trial, lacks, live]
  · simp [trial, lacks]
  · simp [trial, lacks]

theorem trialSet_ctx (scene : Scene) (s : State) (c : Fin 4) :
    (trialSet scene s).ctxs[c] = trialCtxs scene.sections[c] s.scc.ctxs[c] := tab_get _ _ _

/-- The contexts of a chain in the trial, by the mode of its section (R75). -/
theorem trialCtxs_eq (t : SceneSection) (cs : Vector Ctx 2) :
    (t.mode = .run → (trialCtxs t cs)[(1 : Fin 2)] = Ctx.empty ∧ (trialCtxs t cs)[(0 : Fin 2)] =
      { Ctx.empty with state := .live, stages := t.records.map Stage.load }) ∧
    (t.mode = .hold → ∀ x : Fin 2, (trialCtxs t cs)[x] = cs[x].atRequest) ∧
    (t.mode = .off → ∀ x : Fin 2, (trialCtxs t cs)[x] = Ctx.empty) := by
  unfold trialCtxs
  refine ⟨fun run => ?_, fun hold x => ?_, fun off x => ?_⟩
  · rw [run]
    exact ⟨rfl, rfl⟩
  · rw [hold]
    exact tab_get _ _ _
  · rw [off]
    exact Vector.getElem_replicate _

theorem records_length (t : SceneSection) : t.records.length ≤ 12 := by simp [SceneSection.records]

/-- The trial's stage lists are as short as the sections' and the contexts' (R5, R63). -/
theorem shortLists_trialSet (scene : Scene) {s : State}
    (short : ∀ (c : Fin 4) (x : Fin 2), (s.scc.ctx c x).stages.length ≤ 12) :
    ShortLists (trialSet scene s) := fun c x => by
  obtain ⟨run, hold, off⟩ := trialCtxs_eq scene.sections[c] s.scc.ctxs[c]
  have two : ∀ y : Fin 2, y = 0 ∨ y = 1 := by decide
  rw [trialSet_ctx]
  cases mode : scene.sections[c].mode with
  | run =>
    obtain ⟨one, zero⟩ := run mode
    rcases two x with rfl | rfl
    · rw [zero]; simpa using records_length _
    · rw [one]; exact Nat.zero_le _
  | hold => rw [hold mode]; simpa [Ctx.atRequest, Scc.ctx] using short c x
  | off => rw [off mode]; exact Nat.zero_le _

/-- The need of a scene: the blocks of the DELAY stages of its RUN sections (R46, R75). -/
theorem need_eq (scene : Scene) : scene.need = (chains.map fun c => if scene.sections[c].mode = .run
    then (scene.sections[c].records.map fun t => match t.params with
      | .delay p => (p.maxLength + 4095) / 4096
      | _ => 0).sum else 0).sum := by
  have section_ (t : SceneSection) : (if t.mode = .run then (t.records.map fun t => match t.params with
      | .delay p => (p.maxLength + 4095) / 4096
      | _ => 0).sum else 0) = t.need := by
    split
    · rename_i run
      rw [need_of_run run, List.map_map]
      rfl
    · rename_i other
      exact (need_of_not_run other).symm
  simp only [section_, chains, List.map_cons, List.map_nil, List.sum_cons, List.sum_nil, Scene.need]
  omega

/-- The blocks that a load may count on: the free ones and those of the tails (R75). -/
theorem availableBlocks_eq (s : State) : availableBlocks s = s.dpl.free.length + (allCtxs.map fun cx =>
    if (s.scc.ctx cx.1 cx.2).state = .spilling ∨ (s.scc.ctx cx.1 cx.2).state = .cutting
    then (s.scc.ctx cx.1 cx.2).blocks.length else 0).sum := by
  unfold availableBlocks heldBlocks
  simp only [tail_iff]
  rfl

/-- Settles O39: the three parcels ask alike, and what a request leaves is what `receiveRequest` and its checks give. -/
theorem requestsThatCannotStart : Obligations.RequestsThatCannotStart := by
  refine ⟨fun tag n reload s busy i k r mem clear => ?_, fun tag n reload s frames i k r mem clear => ?_,
    fun scene s => ⟨fun c => ?_, fun short => ?_, need_eq scene, availableBlocks_eq s⟩, fun tag n reload s idle => ?_⟩
  · have received := exec_requestParcel_received mem clear (Or.inr fun idle => absurd idle busy)
    obtain ⟨free, taken⟩ := receiveRequest_busy (r := r) (s := consumePermit s) busy
    exact ⟨fun none => by rw [received, free none]; rfl, fun old waits => by rw [received, taken old waits]; rfl⟩
  · have received := exec_requestParcel_received mem clear (Or.inl frames)
    have arrives : requestArrives r (consumePermit s) = receiveRequest r (consumePermit s) :=
      congrArg (receiveRequest r) (startIfDue_of_not (pendingStart_of_quiet clear.1))
    exact ⟨_, by rw [arrives]; exact received⟩
  · obtain ⟨run, hold, off⟩ := trialCtxs_eq scene.sections[c] s.scc.ctxs[c]
    dsimp only
    rw [trialSet_ctx]
    exact ⟨run, hold, off, congrArg Fade.kind (Vector.getElem_replicate _), Vector.getElem_replicate _⟩
  · exact ⟨_, passes12_passes _ _ (shortLists_trialSet scene short), decide_eq_true_iff⟩
  · intro ended
    have select : (Instr.select tag [word n.val, reload], Kind.select, Request.select n (reload.getLsbD 0)) ∈
      requestParcels tag n reload := List.mem_cons_self
    have call : (Instr.call tag [word n.val], Kind.call, Request.call n) ∈ requestParcels tag n reload :=
      List.mem_cons_of_mem _ List.mem_cons_self
    have ret : (Instr.ret tag [], Kind.ret, Request.ret) ∈ requestParcels tag n reload :=
      List.mem_cons_of_mem _ (List.mem_cons_of_mem _ List.mem_cons_self)
    have failed {i : Instr} {k : Kind} {r : Request} {t : State} {o : SceneOutcome}
        (mem : (i, k, r) ∈ requestParcels tag n reload) (clear : Clear k s)
        (fails : startRequest r (consumePermit s) = (t, some o)) := exec_requestParcel_failed mem clear idle fails
    have alive {r : Request} (present : s.scc.scenes[n] ≠ none) (target : requestTarget r s.scc.stack = some n)
        (fails : ∀ scene, sceneFailure r n scene s = some .alreadyLive) :
        startRequest r (consumePermit s) = (ended .alreadyLive r (some n) s.scc.stack, some .alreadyLive) := by
      obtain ⟨scene, is⟩ := Option.ne_none_iff_exists'.mp present
      exact startRequest_fails (s := consumePermit s) target is (fails scene)
    refine ⟨fun clear empty => ?_, fun clear rest top absent => ?_, fun clear absent => ?_, fun clear absent => ?_,
      fun clear present live once => ?_, fun clear present live => ?_, fun scene present i k r asks clear => ?_⟩
    · have none : requestTarget .ret s.scc.stack = none := by rw [empty]; rfl
      rw [← empty]
      exact failed ret clear (startRequest_empty none)
    · have target : requestTarget .ret s.scc.stack = some n := by rw [top]; rfl
      have tail : s.scc.stack.tail = rest := by rw [top]; rfl
      rw [← tail]
      exact failed ret clear (startRequest_absent (s := consumePermit s) target absent)
    · exact failed select clear (startRequest_absent (s := consumePermit s) rfl absent)
    · exact failed call clear (startRequest_absent (s := consumePermit s) rfl absent)
    · rw [once] at select
      exact failed select clear (alive present rfl fun scene => if_pos (by simp [live]))
    · exact failed call clear (alive present rfl fun scene => if_pos (by simp [live]))
    · have anew : (i, k, r) ∈ requestParcels tag n reload ∧ requestTarget r s.scc.stack = some n ∧ AsksAnew r n s := by
        rcases asks with ⟨same, again⟩ | ⟨same, again⟩ | ⟨same, top⟩
        · cases same
          exact ⟨select, rfl, again.elim (fun bit => Or.inr (Or.inr ⟨n, by rw [bit]⟩)) Or.inl⟩
        · cases same
          exact ⟨call, rfl, Or.inl again⟩
        · cases same
          exact ⟨ret, top, Or.inr (Or.inl rfl)⟩
      obtain ⟨mem, target, anew⟩ := anew
      refine ⟨fun trial => ?_, fun trial lacks => ?_⟩
      · exact failed mem clear (startRequest_fails (s := consumePermit s) target present (sceneFailure_budget anew trial))
      · exact failed mem clear
          (startRequest_fails (s := consumePermit s) target present (sceneFailure_pool anew trial lacks))

end Sys2Proof.Machine

namespace Sys2Proof.Machine

set_option Elab.async false

/-! ### The switch (R81, R82, R88, R92, R100) -/

/-- The contexts and the fade of a chain after the switch (table of R81). -/
def switchedChain (f : InFlight) (c : Fin 4) (cs : Vector Ctx 2) (fade : Fade) : Vector Ctx 2 × Fade :=
  match f.copy.sections[c].mode with
  | .hold => (cs, fade)
  | .off => (cs, if (liveCtx cs).isSome then newFade .fadeOut f.copy else fade)
  | .run =>
    if cs[f.standby[c]].state = .ready then
      let on := upd cs f.standby[c] { cs[f.standby[c]] with state := .live }
      match liveCtx cs with
      | some y => (upd on y { cs[y] with state := .fadingOut }, newFade .cross f.copy)
      | none => (on, newFade .fadeIn f.copy)
    else (cs, fade)

/-- The state with one chain's contexts and fade replaced. -/
def putChain (c : Fin 4) (p : Vector Ctx 2 × Fade) (s : State) : State :=
  { s with scc := { s.scc with ctxs := upd s.scc.ctxs c p.1, fades := upd s.scc.fades c p.2 } }

theorem upd_same {α : Type} {n : Nat} (v : Vector α n) (i : Fin n) : upd v i v[i] = v := by simp [upd]

theorem upd_upd {α : Type} {n : Nat} (v : Vector α n) (i : Fin n) (x y : α) : upd (upd v i x) i y = upd v i y := by
  simp [upd]

theorem switchChain_eq (f : InFlight) (s : State) (c : Fin 4) :
    switchChain f s c = putChain c (switchedChain f c s.scc.ctxs[c] s.scc.fades[c]) s := by
  have same : putChain c (s.scc.ctxs[c], s.scc.fades[c]) s = s := by
    unfold putChain
    simp only [upd_same]
  unfold switchChain switchedChain
  dsimp only
  cases f.copy.sections[c].mode with
  | hold => exact same.symm
  | off =>
    cases liveCtx s.scc.ctxs[c] with
    | none => exact same.symm
    | some y => simp [putChain, setFade, show upd s.scc.ctxs c s.scc.ctxs[c.val] = s.scc.ctxs from upd_same _ c]
  | run =>
    dsimp only
    split
    · cases liveCtx s.scc.ctxs[c] with
      | none => rfl
      | some y => simp [putChain, setFade, putCtx, setCtx, upd_upd]
    · exact same.symm

/-- Each chain of a list without repeats is switched by itself. -/
theorem foldl_switchChain (f : InFlight) (l : List (Fin 4)) : ∀ s : State, l.Nodup →
    l.foldl (switchChain f) s = { s with scc := { s.scc with
      ctxs := (l.foldl (switchChain f) s).scc.ctxs, fades := (l.foldl (switchChain f) s).scc.fades } } ∧
    ∀ c : Fin 4, ((l.foldl (switchChain f) s).scc.ctxs[c], (l.foldl (switchChain f) s).scc.fades[c]) =
      if c ∈ l then switchedChain f c s.scc.ctxs[c] s.scc.fades[c] else (s.scc.ctxs[c], s.scc.fades[c]) := by
  induction l with
  | nil => exact fun s _ => ⟨rfl, fun c => rfl⟩
  | cons a rest ih =>
    intro s nodup
    obtain ⟨fresh, nodup⟩ := List.nodup_cons.mp nodup
    obtain ⟨eq, get⟩ := ih (switchChain f s a) nodup
    rw [List.foldl_cons]
    refine ⟨eq.trans (by rw [switchChain_eq]; rfl), fun c => ?_⟩
    rw [get, switchChain_eq]
    unfold putChain
    dsimp only
    by_cases here : c = a
    · subst here
      rw [if_neg fresh, if_pos List.mem_cons_self, upd_self, upd_self]
    · rw [upd_other _ _ here, upd_other _ _ here]
      simp [here]

/-- The chains switched, before tempo, stack and live scene follow. -/
def chainsSwitched (f : InFlight) (s : State) : State := chains.foldl (switchChain f) s

theorem chainsSwitched_leaves (f : InFlight) (s : State) :
    chainsSwitched f s = { s with scc := { s.scc with
      ctxs := (chainsSwitched f s).scc.ctxs, fades := (chainsSwitched f s).scc.fades } } ∧
    ∀ c : Fin 4, ((chainsSwitched f s).scc.ctxs[c], (chainsSwitched f s).scc.fades[c]) =
      switchedChain f c s.scc.ctxs[c] s.scc.fades[c] := by
  obtain ⟨eq, get⟩ := foldl_switchChain f chains s chains_nodup
  exact ⟨eq, fun c => (get c).trans (if_pos (mem_chains c))⟩

theorem liveCtx_state {cs : Vector Ctx 2} {y : Fin 2} (h : liveCtx cs = some y) : cs[y].state = .live := by
  unfold liveCtx at h
  split at h
  · cases h; assumption
  · split at h
    · cases h; assumption
    · cases h

/-- The table of R81 at one chain. -/
structure SwitchedBy (f : InFlight) (c : Fin 4) (cs : Vector Ctx 2) (fade : Fade) (ds : Vector Ctx 2) (left : Fade) :
    Prop where
  hold : f.copy.sections[c].mode = .hold → ds = cs ∧ left = fade
  off : f.copy.sections[c].mode = .off → ds = cs ∧
    left = if (liveCtx cs).isSome then newFade .fadeOut f.copy else fade
  waits : f.copy.sections[c].mode = .run → cs[f.standby[c]].state ≠ .ready → ds = cs ∧ left = fade
  run : f.copy.sections[c].mode = .run → cs[f.standby[c]].state = .ready →
    ds[f.standby[c]] = { cs[f.standby[c]] with state := .live } ∧
    (liveCtx cs = none → left = newFade .fadeIn f.copy ∧ ∀ y, y ≠ f.standby[c] → ds[y] = cs[y]) ∧
    ∀ y, liveCtx cs = some y → left = newFade .cross f.copy ∧ ds[y] = { cs[y] with state := .fadingOut }

theorem upd_other_ctx {v : Vector Ctx 2} {x y : Fin 2} (k : Ctx) (ne : y ≠ x) : (upd v x k)[y] = v[y] :=
  upd_get_ne v x k y y.isLt fun e => ne (Fin.ext e.symm)

theorem switchedBy (f : InFlight) (c : Fin 4) (cs : Vector Ctx 2) (fade : Fade) :
    SwitchedBy f c cs fade (switchedChain f c cs fade).1 (switchedChain f c cs fade).2 := by
  unfold switchedChain
  refine ⟨fun hold => ?_, fun off => ?_, fun run waits => ?_, fun run ready => ?_⟩
  · rw [hold]
    exact ⟨rfl, rfl⟩
  · rw [off]
    exact ⟨rfl, rfl⟩
  · rw [run]
    dsimp only
    rw [if_neg waits]
    exact ⟨rfl, rfl⟩
  · rw [run]
    dsimp only
    rw [if_pos ready]
    refine ⟨?_, fun none => ?_, fun y live => ?_⟩
    · cases live : liveCtx cs with
      | none => exact upd_get_self _ _ _
      | some y =>
        have other : f.standby[c] ≠ y := fun same => by
          have state := liveCtx_state live
          simp only [← same, ready] at state
          cases state
        exact (upd_other_ctx _ other).trans (upd_get_self _ _ _)
    · rw [none]
      exact ⟨rfl, fun y other => upd_other_ctx _ other⟩
    · rw [live]
      exact ⟨rfl, upd_get_self _ _ _⟩

/-- A scene's tempo changes the tempo record and mailbox 4 alone (R100). -/
theorem sceneTempo_leaves (scene : Scene) (s : State) : sceneTempo scene s = { s with
    tfu := (sceneTempo scene s).tfu
    lct := { s.lct with boxes := { s.lct.boxes with tempo := (sceneTempo scene s).lct.boxes.tempo } } } := by
  unfold sceneTempo
  split <;> rfl

theorem sceneTempo_none {scene : Scene} (absent : scene.tempo = none) (s : State) : sceneTempo scene s = s := by
  unfold sceneTempo
  rw [absent]

theorem sceneTempo_some {scene : Scene} {bpm : Nat} (present : scene.tempo = some bpm) (s : State) :
    sceneTempo scene s = applyTempo .scene bpm s := by
  unfold sceneTempo
  rw [present]

/-- SCC after the switch: the chains and fades switched, the stack and the live scene moved, and the change ended where no
fade runs (R71, R82, R88). -/
def switchedScc (f : InFlight) (s : State) : Scc :=
  { s.scc with
    ctxs := (chainsSwitched f s).scc.ctxs, fades := (chainsSwitched f s).scc.fades
    stack := stackAfter f.request s.scc.live s.scc.stack, live := some f.target
    change := if fadesDone (chainsSwitched f s).scc.fades then .idle else .fading
    inFlight := if fadesDone (chainsSwitched f s).scc.fades then none else s.scc.inFlight }

/-- The part after the switch, before its outcome is told. -/
def switchedState (f : InFlight) (s : State) : State :=
  { sceneTempo f.copy (chainsSwitched f s) with scc := switchedScc f s }

theorem switchedState_leaves (f : InFlight) (s : State) : switchedState f s = { s with
    scc := switchedScc f s, tfu := (sceneTempo f.copy s).tfu
    lct := { s.lct with boxes := { s.lct.boxes with tempo := (sceneTempo f.copy s).lct.boxes.tempo } } } := by
  have moved : switchedState f s = { sceneTempo f.copy s with scc := switchedScc f s } := by
    unfold switchedState
    rw [(chainsSwitched_leaves f s).1]
    unfold sceneTempo
    split <;> rfl
  rw [moved, sceneTempo_leaves]

/-- What a switch leaves while frames are processed: it is told, and an evaluation is due where a context has changed. -/
theorem doSwitch_eq {f : InFlight} {s : State} (frames : s.lif.state.processing = true) :
    doSwitch f s = { endRequest .switched f.request (some f.target) (switchedState f s) with
      bgv := { s.bgv with
        evaluate := decide ((chainsSwitched f s).scc.ctxs ≠ s.scc.ctxs) || s.bgv.evaluate } } := by
  have ended : (let moved := sceneTempo f.copy (chainsSwitched f s)
      let after : State := { moved with scc := { moved.scc with
        stack := stackAfter f.request s.scc.live s.scc.stack, live := some f.target, change := .fading } }
      if fadesDone after.scc.fades then toIdle after else after) = switchedState f s := by
    dsimp only
    unfold switchedState switchedScc
    rw [sceneTempo_scc]
    split
    · rw [(chainsSwitched_leaves f s).1]
      rfl
    · rw [(chainsSwitched_leaves f s).1]
  have told : doSwitch f s = evaluationEventIf ((switchedState f s).scc.ctxs ≠ s.scc.ctxs)
      (endRequest .switched f.request (some f.target) (switchedState f s)) := by
    rw [← ended]
    rfl
  have eq := switchedState_leaves f s
  have bgv : (switchedState f s).bgv = s.bgv := by rw [eq]
  rw [told, evaluationEventIf_of_processing _ _ (by rw [endRequest_lif, eq]; exact frames), endRequest_bgv, bgv]
  rfl

theorem fadesDone_iff (fades : Vector Fade 4) : fadesDone fades = true ↔ ∀ c : Fin 4, fades[c].kind = .none := by
  unfold fadesDone
  rw [List.all_eq_true]
  exact ⟨fun h c => of_decide_eq_true (h c (mem_chains c)), fun h c _ => decide_eq_true (h c)⟩

theorem noLoading {s : State} (none : ∀ (c : Fin 4) (x : Fin 2), (s.scc.ctx c x).state ≠ .loading) :
    anyLoading s.scc.ctxs = false :=
  List.any_eq_false.mpr fun cx _ loading => none cx.1 cx.2 (of_decide_eq_true loading)

/-- The switch that is due is the switch of the change in flight (R80, R81). -/
theorem exec_switch {f : InFlight} {s : State} (calm : quiet s = true) (frames : s.lif.state.processing = true)
    (loading : s.scc.change = .loading) (inFlight : s.scc.inFlight = some f)
    (none : ∀ (c : Fin 4) (x : Fin 2), (s.scc.ctx c x).state ≠ .loading) : exec .switch s = .next (doSwitch f s) := by
  have now : due .switch s = true := by
    show (s.lif.state.processing && switchDue s) = true
    simp [switchDue, frames, loading, inFlight, noLoading none]
  have taken : take .switch s = doSwitch f s := by
    show takeSwitch s = _
    unfold takeSwitch
    rw [inFlight]
  show Host.Outcome.next (attempt .switch (settle s)) = _
  rw [settle_of_quiet s calm, attempt_of_due _ _ now, taken]

theorem endRequest_eq (o : SceneOutcome) (r : Request) (n : Option (Fin 128)) (s : State) : endRequest o r n s = { s with
    scc := { s.scc with last := some { outcome := o, request := r, scene := n } }
    lct := (endRequest o r n s).lct } := by
  unfold endRequest
  rw [raise_eq]
  rfl

/-- Mailbox 6 and SCENE tell of a request that has ended (R92). -/
theorem endRequest_tells (o : SceneOutcome) (r : Request) (n : Option (Fin 128)) (s : State) :
    (endRequest o r n s).lct.boxes.scene =
      ⟨{ sceneRecord s with last := some { outcome := o, request := r, scene := n } }, true⟩ ∧
    (endRequest o r n s).lct.notices.getLsbD 1 = true := by
  unfold endRequest
  refine ⟨by rw [raise_boxes]; rfl, ?_⟩
  unfold raise
  rw [setClass_lct]
  simp [NoticeClass.bit]

/-- The return stack after the switch of each kind of request (R82, R88). -/
theorem stackAfter_eq (r : Request) (live : Option (Fin 128)) (stack : List (Fin 128)) :
    (∀ m b, r = .select m b → stackAfter r live stack = stack) ∧
    (∀ m, r = .call m → stackAfter r live stack = match live with
      | some n => (n :: stack).take 6
      | none => stack) ∧
    (r = .ret → stackAfter r live stack = stack.drop 1) := by
  refine ⟨fun m b is => by rw [is]; rfl, fun m is => by rw [is]; rfl, fun is => ?_⟩
  rw [is]
  exact List.drop_one.symm

/-- Settles O42: each chain is switched by itself, and tempo, stack, live scene and outcome follow. -/
theorem theSwitchFollowsTheTable : Obligations.TheSwitchFollowsTheTable := by
  intro f s calm frames loading inFlight none
  obtain ⟨box, notice⟩ := endRequest_tells .switched f.request (some f.target) (switchedState f s)
  obtain ⟨select, call, ret⟩ := stackAfter_eq f.request s.scc.live s.scc.stack
  have eq := switchedState_leaves f s
  have left := doSwitch_eq (f := f) frames
  have chain (c : Fin 4) := switchedBy f c s.scc.ctxs[c] s.scc.fades[c]
  simp only [← (chainsSwitched_leaves f s).2] at chain
  have frame : (doSwitch f s).scc = { switchedScc f s with last := some ⟨.switched, f.request, some f.target⟩ } ∧
      (doSwitch f s).lct = (endRequest .switched f.request (some f.target) (switchedState f s)).lct ∧
      (doSwitch f s).tfu = (sceneTempo f.copy s).tfu ∧ (doSwitch f s).dpl = s.dpl ∧ (doSwitch f s).chp = s.chp ∧
      (doSwitch f s).tun = s.tun ∧ (doSwitch f s).ort = s.ort ∧ (doSwitch f s).lif = s.lif ∧
      (doSwitch f s).pending = s.pending ∧ (doSwitch f s).bgv = { s.bgv with
        evaluate := decide ((chainsSwitched f s).scc.ctxs ≠ s.scc.ctxs) || s.bgv.evaluate } := by
    rw [left, endRequest_eq, eq]
    exact ⟨rfl, rfl, rfl, rfl, rfl, rfl, rfl, rfl, rfl, rfl⟩
  obtain ⟨scc, lct, tfu, dpl, chp, tun, ort, lif, pending, bgv⟩ := frame
  refine ⟨doSwitch f s, exec_switch calm frames loading inFlight none, ?_⟩
  unfold Scc.ctx
  generalize doSwitch f s = t at *
  rw [scc, lct, tfu, dpl, chp, tun, ort, lif, pending, bgv]
  refine ⟨fun c => ⟨(chain c).hold, (chain c).off, (chain c).waits, fun run ready => ?_⟩, select, call, ret, rfl, rfl,
    notice, ?_, fun rest => ?_, fun runs => ?_, fun absent => ?_, fun bpm present => ?_, rfl, rfl, rfl, rfl, rfl, rfl,
    rfl, rfl, fun moved => ?_⟩
  · obtain ⟨live, fresh, both⟩ := (chain c).run run ready
    exact ⟨live, fresh, both⟩
  · rw [box, eq]
    rfl
  · have done : fadesDone (chainsSwitched f s).scc.fades = true := (fadesDone_iff _).mpr rest
    exact ⟨if_pos done, if_pos done⟩
  · obtain ⟨c, runs⟩ := runs
    have on : ¬fadesDone (chainsSwitched f s).scc.fades = true := fun done => runs ((fadesDone_iff _).mp done c)
    exact ⟨if_neg on, (if_neg on).trans inFlight⟩
  · rw [sceneTempo_none absent]
  · rw [sceneTempo_some present]
    exact ⟨rfl, rfl, rfl⟩
  · exact congrArg (fun b => { s.bgv with evaluate := b || s.bgv.evaluate }) (decide_eq_true moved)

end Sys2Proof.Machine

namespace Sys2Proof.Machine

set_option Elab.async false

/-! ### What the steps of the passes keep (R155 to R160) -/

/-- A predicate on running sets that every step of the five passes keeps. Unlike `PassInvariant`, it may use what the rule of
a step asks of the context it cuts and of the fade it changes. -/
structure KeptBySteps (Q : RunSet → Prop) : Prop where
  halve : ∀ (r : RunSet) (p : Place), Q r → Q (r.modify Stage.halve p)
  shed : ∀ (r : RunSet) (p : Place), Q r → Q (r.modify Stage.setShed p)
  tail : ∀ (r : RunSet) (c : Fin 4) (x : Fin 2), r.ctxs[c][x].state = .spilling → Q r → Q (r.cut c x)
  dip : ∀ (r : RunSet) (c : Fin 4), DipsNow r c → Q r →
    Q { r with fades := upd r.fades c { r.fades[c] with kind := r.fades[c].kind.asDip } }
  fade : ∀ (r : RunSet) (c : Fin 4) (x : Fin 2) (left : Fade), LongFade r c x left → Q r →
    Q { r.cut c x with fades := upd r.fades c left }
  bypass : ∀ (r : RunSet) (c : Fin 4), Q r →
    Q (RunSet.drop c 1 (RunSet.drop c 0 { r with bypass := upd r.bypass c true }))

namespace KeptBySteps

variable {Q : RunSet → Prop} (K : KeptBySteps Q)
include K

theorem keeps_pass1 (budget fuel : Nat) (e : Course) (h : Q e.set) : Q (pass1 budget fuel e).set := by
  induction fuel generalizing e with
  | zero => exact h
  | succ fuel ih =>
    unfold pass1
    split
    · exact h
    · split
      · exact ih _ (K.halve _ _ h)
      · exact h

theorem keeps_pass2 (budget fuel : Nat) (e : Course) (h : Q e.set) : Q (pass2 budget fuel e).set := by
  induction fuel generalizing e with
  | zero => exact h
  | succ fuel ih =>
    unfold pass2
    split
    · exact h
    · split
      · exact ih _ (K.shed _ _ h)
      · exact h

theorem keeps_pass3At (budget : Nat) (e : Course) (cx : Fin 4 × Fin 2) (h : Q e.set) : Q (pass3At budget e cx).set := by
  unfold pass3At
  split
  · exact h
  · split
    · exact K.tail _ _ _ ‹_› h
    · exact h

theorem keeps_pass4At (budget : Nat) (e : Course) (c : Fin 4) (h : Q e.set) : Q (pass4At budget e c).set := by
  by_cases fits : e.set.demand ≤ budget
  · rw [(pass4_tries budget).fits e c fits]
    exact h
  · have large := Nat.not_le.mp fits
    by_cases can : Qualifies e.set c
    · rcases can with now | ⟨x, left, long⟩
      · rw [pass4At_dip large now]
        exact K.dip _ _ now h
      · rw [pass4At_cut large long]
        exact K.fade _ _ _ _ long h
    · rw [pass4At_skip can]
      exact h

theorem keeps_pass5At (budget : Nat) (e : Course) (c : Fin 4) (h : Q e.set) : Q (pass5At budget e c).set := by
  unfold pass5At
  split
  · exact h
  · exact K.bypass _ _ h

/-- The five passes keep what each of their steps keeps. -/
theorem keeps_passes (budget : Nat) (r : RunSet) (h : Q r) : Q (passes budget r).set :=
  List.foldlRecOn (motive := fun e => Q e.set) _ _
    (List.foldlRecOn (motive := fun e => Q e.set) _ _
      (List.foldlRecOn (motive := fun e => Q e.set) _ _
        (K.keeps_pass2 budget _ _ (K.keeps_pass1 budget _ _ h))
        fun e he cx _ => K.keeps_pass3At budget e cx he)
      fun e he c _ => K.keeps_pass4At budget e c he)
    fun e he c _ => K.keeps_pass5At budget e c he

end KeptBySteps

/-- A context of a chain bypass: a LIVE one stands, and every other one goes to IDLE (R160). -/
theorem ctx_drop (c : Fin 4) (x : Fin 2) (r : RunSet) (d : Fin 4) (y : Fin 2) : (RunSet.drop c x r).ctxs[d][y] =
    if d = c ∧ y = x ∧ r.ctxs[c][x].state ≠ .live then Ctx.empty else r.ctxs[d][y] := by
  unfold RunSet.drop
  dsimp only
  split
  · rename_i live
    exact (if_neg fun h => h.2.2 live).symm
  · rename_i other
    dsimp only
    rw [setCtx_get]
    exact if_congr ⟨fun h => ⟨h.1, h.2, other⟩, fun h => ⟨h.1, h.2.1⟩⟩ rfl rfl

/-- The fade of a chain whose context a bypass takes to IDLE goes on without its outgoing part, if it had one (R87). -/
theorem fade_drop (c : Fin 4) (x : Fin 2) (r : RunSet) (d : Fin 4) : (RunSet.drop c x r).fades[d] = r.fades[d] ∨
    (RunSet.drop c x r).fades[d] = { r.fades[d] with kind := r.fades[d].kind.withoutOutgoing } := by
  unfold RunSet.drop
  dsimp only
  split
  · exact Or.inl rfl
  · dsimp only
    split
    · by_cases here : d = c
      · subst here
        exact Or.inr (upd_self _ _ _)
      · exact Or.inl (upd_other _ _ here)
    · exact Or.inl rfl

/-! #### Bypassed chains -/

/-- A context that may stand in a bypassed chain (R160). -/
def LiveOrEmpty (k : Ctx) : Prop := k.state = .live ∨ k = Ctx.empty

theorem liveOrEmpty_drop_self (c : Fin 4) (x : Fin 2) (r : RunSet) : LiveOrEmpty (RunSet.drop c x r).ctxs[c][x] := by
  rw [ctx_drop]
  by_cases live : r.ctxs[c][x].state = .live
  · rw [if_neg fun h => h.2.2 live]
    exact Or.inl live
  · rw [if_pos ⟨rfl, rfl, live⟩]
    exact Or.inr rfl

theorem liveOrEmpty_drop (c : Fin 4) (x : Fin 2) {r : RunSet} {d : Fin 4} {y : Fin 2} (h : LiveOrEmpty r.ctxs[d][y]) :
    LiveOrEmpty (RunSet.drop c x r).ctxs[d][y] := by
  rw [ctx_drop]
  split
  · exact Or.inr rfl
  · exact h

/-- A chain that carries the bypass mark has no context but a LIVE one (R160; log entry 3). -/
def BypassedEmpty (r : RunSet) : Prop := ∀ (c : Fin 4) (x : Fin 2), r.bypass[c] = true → LiveOrEmpty r.ctxs[c][x]

theorem bypassedEmpty_pass5At (budget : Nat) (e : Course) (c : Fin 4) (h : BypassedEmpty e.set) :
    BypassedEmpty (pass5At budget e c).set := by
  unfold pass5At
  split
  · exact h
  · intro d y marked
    dsimp only at marked ⊢
    rw [bypass_drop, bypass_drop] at marked
    by_cases here : d = c
    · subst here
      match y with
      | 0 => exact liveOrEmpty_drop d 1 (liveOrEmpty_drop_self d 0 _)
      | 1 => exact liveOrEmpty_drop_self d 1 _
    · have was : e.set.bypass[d] = true := (upd_other _ _ here).symm.trans marked
      exact liveOrEmpty_drop c 1 (liveOrEmpty_drop c 0 (h d y was))

theorem bypassedEmpty_of_unmarked {r : RunSet} (unmarked : r.bypass = Vector.replicate 4 false) : BypassedEmpty r := by
  intro c x marked
  rw [unmarked] at marked
  simp at marked

theorem bypassedEmpty_foldl_pass5At (budget : Nat) (l : List (Fin 4)) (e : Course) (h : BypassedEmpty e.set) :
    BypassedEmpty (l.foldl (pass5At budget) e).set := by
  induction l generalizing e with
  | nil => exact h
  | cons c l ih => exact ih _ (bypassedEmpty_pass5At budget e c h)

/-- A chain that an evaluation bypasses is left with no context but a LIVE one (R160). -/
theorem bypassedEmpty_passes (budget : Nat) (r : RunSet) (unmarked : r.bypass = Vector.replicate 4 false) :
    BypassedEmpty (passes budget r).set := by
  rw [passes_eq]
  have start := (bypass_passes14 budget r).trans unmarked
  generalize passes14 budget r = e at *
  exact bypassedEmpty_foldl_pass5At budget chainsDown e (bypassedEmpty_of_unmarked start)

/-! #### No context transition and no end of a fade falls due by an evaluation -/

/-- No transition of the context has fallen due (R59 to R61, R80). -/
structure CalmCtx (k : Ctx) : Prop where
  loading : k.state = .loading → k.loadCount < 4 + k.stages.length
  spilling : k.state = .spilling → k.quietCount < 4096 ∧ k.spillCount < k.spillLimit
  cutting : k.state = .cutting → k.cut ≠ 0

/-- The fade has not ended, and its half-way point is taken where it has been reached (R83 to R85). -/
structure CalmFade (f : Fade) : Prop where
  ended : f.ended = false
  halfway : f.kind.holds = true → 32 ≤ f.k → f.halfTaken = true

theorem calmCtx_iff (s : State) (c : Fin 4) (x : Fin 2) : CalmCtx (s.scc.ctx c x) ↔
    due (.loadComplete c x) s = false ∧ due (.tailEnd c x) s = false ∧ due (.spillLimit c x) s = false ∧
      due (.cutComplete c x) s = false := by
  simp only [due, loadCompleteDue, tailEndDue, spillLimitDue, cutCompleteDue]
  constructor
  · rintro ⟨loading, spilling, cutting⟩
    simp only [Bool.and_eq_false_iff, decide_eq_false_iff_not]
    refine ⟨?_, ?_, ?_, ?_⟩
    · by_cases h : (s.scc.ctx c x).state = .loading
      · exact Or.inr (Nat.not_le.mpr (loading h))
      · exact Or.inl h
    · by_cases h : (s.scc.ctx c x).state = .spilling
      · exact Or.inr (Nat.not_le.mpr (spilling h).1)
      · exact Or.inl h
    · by_cases h : (s.scc.ctx c x).state = .spilling
      · exact Or.inr (Nat.not_le.mpr (spilling h).2)
      · exact Or.inl (Or.inl h)
    · by_cases h : (s.scc.ctx c x).state = .cutting
      · exact Or.inr (cutting h)
      · exact Or.inl h
  · rintro ⟨loading, tail, limit, cutting⟩
    refine ⟨fun h => ?_, fun h => ?_, fun h => ?_⟩
    · simpa [h] using loading
    · have quiet : (s.scc.ctx c x).quietCount < 4096 := by simpa [h] using tail
      exact ⟨quiet, by simpa [h, quiet] using limit⟩
    · simpa [h] using cutting

theorem calmFade_iff (s : State) (c : Fin 4) : CalmFade s.scc.fades[c] ↔
    due (.dipHalfway c) s = false ∧ due (.fadeEnd c) s = false := by
  simp only [due, dipHalfwayDue, fadeEndDue]
  constructor
  · rintro ⟨ended, halfway⟩
    refine ⟨?_, ended⟩
    by_contra reached
    simp only [Bool.not_eq_false, Bool.and_eq_true, decide_eq_true_eq, Bool.not_eq_true'] at reached
    obtain ⟨⟨holds, late⟩, open_⟩ := reached
    rw [halfway holds late] at open_
    cases open_
  · rintro ⟨halfway, ended⟩
    exact ⟨ended, fun holds late => by simpa only [holds, late, Bool.true_and, decide_true, Bool.not_eq_false'] using halfway⟩

/-- No event of a context or a fade has fallen due. -/
def CalmSet (r : RunSet) : Prop := (∀ (c : Fin 4) (x : Fin 2), CalmCtx r.ctxs[c][x]) ∧ ∀ c : Fin 4, CalmFade r.fades[c]

theorem contextEvents_calm_iff (s : State) : (∀ e ∈ contextEvents, due e s = false) ↔ CalmSet s.runSet := by
  have members (e : Event) : e ∈ contextEvents ↔ (∃ cx ∈ allCtxs, Event.loadComplete cx.1 cx.2 = e ∨
      Event.tailEnd cx.1 cx.2 = e ∨ Event.spillLimit cx.1 cx.2 = e ∨ Event.cutComplete cx.1 cx.2 = e) ∨
      ∃ c ∈ chains, Event.dipHalfway c = e ∨ Event.fadeEnd c = e := by
    unfold contextEvents
    simp only [List.mem_append, List.mem_map]
    grind
  have every : ∀ (c : Fin 4) (x : Fin 2), (c, x) ∈ allCtxs := by decide
  constructor
  · intro calm
    have at_ (e : Event) (h : _) : due e s = false := calm e ((members e).mpr h)
    refine ⟨fun c x => (calmCtx_iff s c x).mpr ⟨?_, ?_, ?_, ?_⟩, fun c => (calmFade_iff s c).mpr ⟨?_, ?_⟩⟩
    · exact at_ _ (Or.inl ⟨_, every c x, Or.inl rfl⟩)
    · exact at_ _ (Or.inl ⟨_, every c x, Or.inr (Or.inl rfl)⟩)
    · exact at_ _ (Or.inl ⟨_, every c x, Or.inr (Or.inr (Or.inl rfl))⟩)
    · exact at_ _ (Or.inl ⟨_, every c x, Or.inr (Or.inr (Or.inr rfl))⟩)
    · exact at_ _ (Or.inr ⟨_, mem_chains c, Or.inl rfl⟩)
    · exact at_ _ (Or.inr ⟨_, mem_chains c, Or.inr rfl⟩)
  · rintro ⟨ctxs, fades⟩ e mem
    rcases (members e).mp mem with ⟨⟨c, x⟩, -, which⟩ | ⟨c, -, which⟩
    · obtain ⟨load, tail, limit, cut⟩ := (calmCtx_iff s c x).mp (ctxs c x)
      rcases which with rfl | rfl | rfl | rfl
      · exact load
      · exact tail
      · exact limit
      · exact cut
    · obtain ⟨half, ended⟩ := (calmFade_iff s c).mp (fades c)
      rcases which with rfl | rfl
      · exact half
      · exact ended

theorem calmCtx_stages {k : Ctx} {l : List Stage} (same : l.length = k.stages.length) (h : CalmCtx k) :
    CalmCtx { k with stages := l } where
  loading := fun loading => by rw [same]; exact h.loading loading
  spilling := h.spilling
  cutting := h.cutting

theorem calmCtx_toCutting (k : Ctx) : CalmCtx k.toCutting where
  loading := fun no => nomatch no
  spilling := fun no => nomatch no
  cutting := fun _ no => nomatch no

theorem calmCtx_empty : CalmCtx Ctx.empty where
  loading := fun no => nomatch no
  spilling := fun no => nomatch no
  cutting := fun no => nomatch no

theorem calmFade_rest : CalmFade Fade.rest := ⟨rfl, fun no => nomatch no⟩

/-- A fade at position 0 that becomes a dip is at no point of it yet. -/
theorem calmFade_asDip {f : Fade} (start : f.k = 0) : CalmFade { f with kind := f.kind.asDip } := by
  refine ⟨?_, fun _ late => ?_⟩
  · cases kind : f.kind <;> simp [FadeKind.asDip, Fade.ended, start]
  · dsimp only at late
    omega

theorem calmFade_withoutOutgoing {f : Fade} (h : CalmFade f) : CalmFade { f with kind := f.kind.withoutOutgoing } := by
  obtain ⟨ended, halfway⟩ := h
  obtain ⟨kind, length, k, half⟩ := f
  cases kind <;> exact ⟨ended, halfway⟩

theorem calmSet_modify (f : Stage → Stage) (p : Place) (r : RunSet) (h : CalmSet r) : CalmSet (r.modify f p) :=
  ⟨fun c x => by
    rw [ctx_modify]
    refine calmCtx_stages ?_ (h.1 c x)
    split
    · exact List.length_modify ..
    · rfl, h.2⟩

theorem calmSet_cut (c : Fin 4) (x : Fin 2) (r : RunSet) (h : CalmSet r) : CalmSet (r.cut c x) :=
  ⟨fun d y => by
    rw [ctx_cut]
    split
    · exact calmCtx_toCutting _
    · exact h.1 d y, h.2⟩

theorem calmSet_fade {c : Fin 4} {f : Fade} {r : RunSet} (h : CalmSet r) (fade : CalmFade f) :
    CalmSet { r with fades := upd r.fades c f } :=
  ⟨h.1, fun d => by
    by_cases here : d = c
    · subst here
      dsimp only
      rw [upd_self]
      exact fade
    · dsimp only
      rw [upd_other _ _ here]
      exact h.2 d⟩

theorem calmSet_drop (c : Fin 4) (x : Fin 2) (r : RunSet) (h : CalmSet r) : CalmSet (RunSet.drop c x r) :=
  ⟨fun d y => by
    rw [ctx_drop]
    split
    · exact calmCtx_empty
    · exact h.1 d y, fun d => by
    rcases fade_drop c x r d with same | without
    · rw [same]; exact h.2 d
    · rw [without]; exact calmFade_withoutOutgoing (h.2 d)⟩

/-- The steps of the passes let no event of a context or a fade fall due. -/
theorem calmSet_kept : KeptBySteps CalmSet where
  halve r p h := calmSet_modify _ p r h
  shed r p h := calmSet_modify _ p r h
  tail r c x _ h := calmSet_cut c x r h
  dip _ _ now h := calmSet_fade h (calmFade_asDip now.1)
  fade r c x left long h := calmSet_fade (calmSet_cut c x r h) (by
    obtain ⟨-, far, ⟨-, -, rfl⟩ | ⟨-, -, rfl⟩⟩ := long
    · exact ⟨decide_eq_false (by dsimp only; omega), fun no => nomatch no⟩
    · exact calmFade_rest)
  bypass r c h := calmSet_drop c 1 _ (calmSet_drop c 0 _ h)

theorem calmSet_atRequest {r : RunSet} (h : CalmSet r) : CalmSet r.atRequest :=
  ⟨fun c x => by
    show CalmCtx (mapCtxs Ctx.atRequest r.ctxs)[c][x]
    rw [mapCtxs_get]
    exact calmCtx_stages (List.length_map _) (h.1 c x), h.2⟩

/-! #### LIVE contexts that do not fade to silence -/

/-- The context has the state, the pan and, mark by mark apart, the stages of another (R155). -/
structure SameButMarks (k m : Ctx) : Prop where
  state : m.state = k.state
  pan : m.pan = k.pan
  records : m.stages.map Stage.record = k.stages.map Stage.record
  procs : m.stages.map Stage.proc = k.stages.map Stage.proc
  blocks : m.stages.map Stage.blocks = k.stages.map Stage.blocks

theorem map_modify_of_kept {α : Type} (g : Stage → α) (f : Stage → Stage) (h : ∀ st, g (f st) = g st) (l : List Stage)
    (i : Nat) : (l.modify i f).map g = l.map g := by
  refine List.ext_getElem? fun j => ?_
  simp only [List.getElem?_map, List.getElem?_modify]
  cases l[j]? with
  | none => rfl
  | some st => simp only [Option.map_some]; split <;> simp [h]

theorem SameButMarks.modify {k m : Ctx} (h : SameButMarks k m) (f : Stage → Stage) (i : Nat)
    (record : ∀ st, (f st).record = st.record) (proc : ∀ st, (f st).proc = st.proc)
    (blocks : ∀ st, (f st).blocks = st.blocks) : SameButMarks k { m with stages := m.stages.modify i f } where
  state := h.state
  pan := h.pan
  records := (map_modify_of_kept _ f record _ i).trans h.records
  procs := (map_modify_of_kept _ f proc _ i).trans h.procs
  blocks := (map_modify_of_kept _ f blocks _ i).trans h.blocks

/-- A LIVE context stands but for marks, and its chain does not fade to silence. -/
def StandsLive (k : Ctx) (c : Fin 4) (x : Fin 2) (r : RunSet) : Prop :=
  SameButMarks k r.ctxs[c][x] ∧ r.fades[c].kind ≠ .fadeOut

theorem standsLive_modify {k : Ctx} {c : Fin 4} {x : Fin 2} (f : Stage → Stage)
    (record : ∀ st, (f st).record = st.record) (proc : ∀ st, (f st).proc = st.proc)
    (blocks : ∀ st, (f st).blocks = st.blocks) (p : Place) (r : RunSet) (h : StandsLive k c x r) :
    StandsLive k c x (r.modify f p) := by
  refine ⟨?_, h.2⟩
  rw [ctx_modify]
  split
  · exact h.1.modify f _ record proc blocks
  · exact h.1

theorem standsLive_fade {k : Ctx} {c : Fin 4} {x : Fin 2} {r : RunSet} (d : Fin 4) (f : Fade)
    (h : StandsLive k c x r) (other : f.kind ≠ .fadeOut) : StandsLive k c x { r with fades := upd r.fades d f } := by
  refine ⟨h.1, ?_⟩
  by_cases here : c = d
  · subst here
    dsimp only
    rw [upd_self]
    exact other
  · dsimp only
    rw [upd_other _ _ here]
    exact h.2

theorem standsLive_cut {k : Ctx} {c : Fin 4} {x : Fin 2} (live : k.state = .live) {d : Fin 4} {y : Fin 2} {r : RunSet}
    (other : r.ctxs[d][y].state ≠ .live) (h : StandsLive k c x r) : StandsLive k c x (r.cut d y) := by
  refine ⟨?_, h.2⟩
  rw [ctx_cut, if_neg]
  · exact h.1
  · rintro ⟨rfl, rfl⟩
    exact other (h.1.state.trans live)

theorem withoutOutgoing_ne_fadeOut {kind : FadeKind} (h : kind ≠ .fadeOut) : kind.withoutOutgoing ≠ .fadeOut := by
  cases kind with
  | fadeOut => exact absurd rfl h
  | _ => exact fun no => nomatch no

theorem standsLive_drop {k : Ctx} {c : Fin 4} {x : Fin 2} (live : k.state = .live) (d : Fin 4) (y : Fin 2) (r : RunSet)
    (h : StandsLive k c x r) : StandsLive k c x (RunSet.drop d y r) := by
  refine ⟨?_, ?_⟩
  · rw [ctx_drop, if_neg]
    · exact h.1
    · rintro ⟨rfl, rfl, other⟩
      exact other (h.1.state.trans live)
  · rcases fade_drop d y r c with same | without
    · rw [same]; exact h.2
    · rw [without]; exact withoutOutgoing_ne_fadeOut h.2

theorem fadingCtx_state {cs : Vector Ctx 2} {y : Fin 2} (h : fadingCtx cs = some y) : cs[y].state = .fadingOut := by
  unfold fadingCtx at h
  split at h
  · cases h; assumption
  · split at h
    · cases h; assumption
    · cases h

/-- No step of the passes touches a LIVE context, but for the cut of one that fades to silence (R155). -/
theorem standsLive_kept {k : Ctx} (live : k.state = .live) (c : Fin 4) (x : Fin 2) : KeptBySteps (StandsLive k c x) where
  halve r p h := standsLive_modify Stage.halve (fun _ => rfl) (fun _ => rfl) (fun _ => rfl) p r h
  shed r p h := standsLive_modify Stage.setShed (fun _ => rfl) (fun _ => rfl) (fun _ => rfl) p r h
  tail r d y spills h := standsLive_cut live (by rw [spills]; exact fun no => nomatch no) h
  dip r d _ h := standsLive_fade d _ h (asDip_ne r.fades[d].kind).2.1
  fade r d y left long h := by
    have kept (h : r.ctxs[d][y].state ≠ .live) (other : left.kind ≠ .fadeOut) :
        StandsLive k c x { r.cut d y with fades := upd r.fades d left } :=
      standsLive_fade (r := r.cut d y) d left (standsLive_cut live h ‹_›) other
    obtain ⟨-, -, ⟨-, out, rfl⟩ | ⟨kind, out, rfl⟩⟩ := long
    · exact kept (by rw [fadingCtx_state out]; exact fun no => nomatch no) (fun no => nomatch no)
    · refine ⟨?_, (standsLive_fade (r := r) d Fade.rest h fun no => nomatch no).2⟩
      have elsewhere : c ≠ d := fun here => h.2 (here ▸ kind)
      show SameButMarks k (r.cut d y).ctxs[c][x]
      rw [ctx_cut, if_neg fun here => elsewhere here.1]
      exact h.1
  bypass r d h := standsLive_drop live d 1 _ (standsLive_drop live d 0 _ h)

theorem standsLive_atRequest {k : Ctx} {c : Fin 4} {x : Fin 2} {r : RunSet} (is : r.ctxs[c][x] = k)
    (other : r.fades[c].kind ≠ .fadeOut) : StandsLive k c x r.atRequest := by
  refine ⟨?_, other⟩
  show SameButMarks k (mapCtxs Ctx.atRequest r.ctxs)[c][x]
  rw [mapCtxs_get, is]
  refine ⟨rfl, rfl, ?_, ?_, ?_⟩
  all_goals simp [Ctx.atRequest, Stage.atRequest, Function.comp_def]

/-! #### The evaluation and the load that it lets start -/

theorem evaluationCourse_calm {s : State} (calm : ∀ e ∈ contextEvents, due e s = false) :
    CalmSet (evaluationCourse s).set := by
  unfold evaluationCourse
  exact calmSet_kept.keeps_passes _ _ (calmSet_atRequest ((contextEvents_calm_iff s).mp calm))

theorem evaluateMarks_runSet (s : State) : (evaluateMarks s).runSet = (evaluationCourse s).set := by
  rw [evaluateMarks_eq]
  generalize evaluationCourse s = e
  rw [raiseIf_eq]
  rfl

/-- An evaluation lets no event of a context or a fade fall due. -/
theorem evaluateMarks_calm {s : State} (calm : ∀ e ∈ contextEvents, due e s = false) :
    ∀ e ∈ contextEvents, due e (evaluateMarks s) = false :=
  (contextEvents_calm_iff _).mpr (by rw [evaluateMarks_runSet]; exact evaluationCourse_calm calm)

/-- What an evaluation leaves, and a load that it lets start (R155, R162). -/
structure EvaluationKeeps (s t : State) : Prop where
  budget : t.budget = s.budget
  demand : t.runSet.demand ≤ s.budget
  live : ∀ (c : Fin 4) (x : Fin 2), (s.scc.ctx c x).state = .live → s.scc.fades[c].kind ≠ .fadeOut →
    SameButMarks (s.scc.ctx c x) (t.scc.ctx c x)
  mem : t.dpl.mem = s.dpl.mem
  scenes : t.scc.scenes = s.scc.scenes
  stack : t.scc.stack = s.scc.stack
  sceneLive : t.scc.live = s.scc.live
  chp : t.chp = s.chp
  tfu : t.tfu = s.tfu
  tun : t.tun = s.tun
  ort : t.ort = s.ort
  lif : t.lif = s.lif
  pending : t.pending = s.pending
  guardState : t.bgv.guardState = s.bgv.guardState
  queue : t.lct.queue = s.lct.queue
  counters : t.lct.counters = s.lct.counters

theorem raiseIf_of_not_due (p : Bool) (k : NoticeClass) {s : State} (h : noticeDue s = false) :
    raiseIf p k s = if p then setClass k s else s := by
  unfold raiseIf
  rw [raise_of_not_due s k h]

theorem evaluationCourse_standsLive {s : State} {c : Fin 4} {x : Fin 2} (live : (s.scc.ctx c x).state = .live)
    (other : s.scc.fades[c].kind ≠ .fadeOut) : StandsLive (s.scc.ctx c x) c x (evaluationCourse s).set := by
  unfold evaluationCourse
  exact (standsLive_kept live c x).keeps_passes _ _ (standsLive_atRequest (r := s.runSet) rfl other)

theorem evaluateMarks_keeps {s : State} (quiet : noticeDue s = false) : EvaluationKeeps s (evaluateMarks s) := by
  have fits := evaluationCourse_budget s
  have live := @evaluationCourse_standsLive s
  rw [evaluateMarks_eq]
  generalize evaluationCourse s = e at *
  have still : noticeDue (evaluated e s) = false := quiet
  have live (c : Fin 4) (x : Fin 2) (is : (s.scc.ctx c x).state = .live) (other : s.scc.fades[c].kind ≠ .fadeOut) :
      SameButMarks (s.scc.ctx c x) e.set.ctxs[c][x] := (live is other).1
  rw [raiseIf_of_not_due _ _ still]
  split
  all_goals exact ⟨rfl, fits, live, rfl, rfl, rfl, rfl, rfl, rfl, rfl, rfl, rfl, rfl, rfl, rfl, rfl⟩

/-- A load start leaves every context but an IDLE one that it makes LOADING. -/
theorem chainsLoaded_ctx {f : InFlight} {s : State} (ready : loadReady f s = true) (c : Fin 4) (x : Fin 2) :
    (chainsLoaded f s).scc.ctx c x = s.scc.ctx c x ∨
      (s.scc.ctx c x).state = .idle ∧ ((chainsLoaded f s).scc.ctx c x).state = .loading := by
  obtain ⟨idle, covered⟩ := (loadReady_iff f s).mp ready
  obtain ⟨-, filled, others, -⟩ :=
    foldl_loadChain f chains s chains_nodup (fun c _ => idle c) (by rw [needOf_chains]; exact covered)
  by_cases target : f.copy.sections[c].mode = .run ∧ x = f.standby[c]
  · obtain ⟨run, rfl⟩ := target
    exact Or.inr ⟨idle c run, (filled c (mem_chains c) run).1⟩
  · exact Or.inl (others c x (Or.inr (not_and_or.mp target)))

theorem chainsLoaded_cost {f : InFlight} {s : State} (ready : loadReady f s = true) (fade : Fade) (c : Fin 4) (x : Fin 2) :
    ctxCost fade ((chainsLoaded f s).scc.ctx c x) = ctxCost fade (s.scc.ctx c x) := by
  rcases chainsLoaded_ctx ready c x with same | ⟨idle, loading⟩
  · rw [same]
  · simp [ctxCost, idle, loading]

/-- An IDLE context costs as much as a LOADING one, so a load start keeps the demand. -/
theorem chainsLoaded_demand {f : InFlight} {s : State} (ready : loadReady f s = true) {r : RunSet}
    (ctxs : r.ctxs = (chainsLoaded f s).scc.ctxs) (fades : r.fades = s.scc.fades) (bypass : r.bypass = s.bgv.bypass) :
    r.demand = s.runSet.demand := by
  have chain (c : Fin 4) : r.chainCost c = s.runSet.chainCost c := by
    unfold RunSet.chainCost
    rw [ctxs, fades, bypass]
    exact congrArg₂ (fun a b => if s.bgv.bypass[c] then 0 else a + b)
      (chainsLoaded_cost ready s.scc.fades[c] c 0) (chainsLoaded_cost ready s.scc.fades[c] c 1)
  unfold RunSet.demand
  simp only [chain]

theorem EvaluationKeeps.loadStart {s u : State} {f : InFlight} (h : EvaluationKeeps s u)
    (frames : u.lif.state.processing = true) (ready : loadReady f u = true) :
    EvaluationKeeps s (loadStart f u) := by
  rw [loadStart_leaves frames ready]
  refine ⟨h.budget, ?_, fun c x is other => ?_, h.mem, h.scenes, h.stack, h.sceneLive, h.chp, h.tfu, h.tun, h.ort, h.lif,
    h.pending, h.guardState, h.queue, h.counters⟩
  · exact (chainsLoaded_demand ready rfl rfl rfl).trans_le h.demand
  · have same := h.live c x is other
    rcases chainsLoaded_ctx ready c x with kept | ⟨idle, -⟩
    · show SameButMarks _ ((chainsLoaded f u).scc.ctx c x)
      rw [kept]
      exact same
    · exact nomatch idle.symm.trans (same.state.trans is)

theorem loadDue_iff (s : State) : loadDue s = true ↔
    s.scc.change = .cutting ∧ ∃ f, s.scc.inFlight = some f ∧ loadReady f s = true := by
  unfold loadDue
  cases s.scc.inFlight <;> simp

/-- An evaluation while frames are processed: a load that it lets start is the load start of its own row (R78, R155). -/
theorem evaluateNow_of_processing {s : State} (frames : s.lif.state.processing = true) :
    evaluateNow s = if loadDue (evaluateMarks s) then takeLoadStart (evaluateMarks s) else evaluateMarks s := by
  have lif : (evaluateMarks s).lif = s.lif := by rw [evaluateMarks_eq, raiseIf_eq]; rfl
  rw [← lif] at frames
  unfold evaluateNow
  dsimp only
  generalize evaluateMarks s = u at *
  split
  · rename_i load
    obtain ⟨-, f, inFlight, ready⟩ := (loadDue_iff u).mp load
    unfold takeLoadStart
    rw [inFlight]
    dsimp only
    have lif : (loadChains f u).lif.state.processing = true := by
      obtain ⟨idle, covered⟩ := (loadReady_iff f u).mp ready
      obtain ⟨eq, -⟩ := foldl_loadChain f chains u chains_nodup (fun c _ => idle c) (by rw [needOf_chains]; exact covered)
      unfold loadChains
      rw [eq]
      exact frames
    unfold Machine.loadStart evaluationEventIf evaluationEvent
    cases f.loads <;> simp [lif]
  · rfl

theorem exec_governorEvaluation {s : State} (calm : quiet s = true) (frames : s.lif.state.processing = true)
    (noSwitch : switchDue s = false) (evaluate : s.bgv.evaluate = true) :
    exec .governorEvaluation s = .next (evaluateNow s) := by
  have switch : attempt .switch s = s := attempt_of_not_due _ _ (by simp [due, noSwitch])
  have pending : attempt .pendingStart s = s := attempt_of_not_due _ _ (pendingStart_of_quiet calm)
  have all : switches s = s := by
    unfold switches
    rw [settle_of_quiet s calm, switch, pending, switch]
  have now : due .evaluation s = true := by simp [due, frames, evaluate]
  show Host.Outcome.next (attempt .evaluation (switches s)) = _
  rw [all, attempt_of_due _ _ now]
  rfl

/-- A load that is due is due as well where contexts stand at their requested values. -/
theorem loadDue_congr {s u : State} (change : u.scc.change = s.scc.change) (inFlight : u.scc.inFlight = s.scc.inFlight)
    (states : ∀ (c : Fin 4) (x : Fin 2), (u.scc.ctx c x).state = (s.scc.ctx c x).state) (free : u.dpl.free = s.dpl.free) :
    loadDue u = loadDue s := by
  rw [Bool.eq_iff_iff, loadDue_iff, loadDue_iff, change, inFlight]
  simp only [loadReady_iff, states, free]

/-! #### The settling theorem -/

/-- Where the requested state fits the budget, an evaluation takes no step (R155). -/
theorem evaluationCourse_of_fits {s : State} (fits : s.runSet.atRequest.demand ≤ s.budget) :
    evaluationCourse s = ⟨s.runSet.atRequest, 0, 0, 0, 0⟩ := passes_of_fits fits

/-- An evaluation whose requested state fits lets no load start (R78). -/
theorem loadDue_of_fits {s : State} (fits : s.runSet.atRequest.demand ≤ s.budget) (none : loadDue s = false) :
    loadDue (evaluateMarks s) = false := by
  rw [evaluateMarks_eq, evaluationCourse_of_fits fits, raiseIf_eq, ← none]
  refine loadDue_congr rfl rfl (fun c x => ?_) rfl
  show s.runSet.atRequest.ctxs[c][x].state = _
  rw [runSet_ctx]
  rfl

theorem evaluationCourse_bypassed (s : State) : BypassedEmpty (evaluationCourse s).set := by
  unfold evaluationCourse
  exact bypassedEmpty_passes _ _ rfl

/-- GOVERN is told of a change of a mark, a dip and a cut (R162). -/
theorem governTold_iff (e : Course) (s : State) : governTold e s = true ↔ e.halvings ≠ s.bgv.halvings ∨
    e.sheds ≠ s.bgv.sheds ∨ e.set.bypass ≠ s.bgv.bypass ∨ 0 < e.dips ∨ 0 < e.cuts := by
  simp [governTold, or_assoc]

/-- Settles O54: the row of the evaluation takes `evaluateNow`, which is the course of the five passes, and the load start
where that lets a load start; both keep what an evaluation does not touch. -/
theorem evaluationsFitTheBudget : Obligations.EvaluationsFitTheBudget := by
  intro s calm frames noSwitch evaluate
  have quiet : ∀ e ∈ contextEvents, due e s = false := fun e mem =>
    not_due_of_quiet s calm e (by
      simp only [settleOrder, List.mem_append]
      exact Or.inl (Or.inl (Or.inl (Or.inr mem))))
  have keeps := evaluateMarks_keeps (noticeDue_of_quiet calm)
  have fitted : s.runSet.atRequest.demand ≤ s.budget → loadDue (evaluateMarks s) = false := fun fits =>
    loadDue_of_fits fits (not_due_of_quiet s calm .loadStart (by decide))
  have still := evaluateMarks_calm quiet
  have keptNow : EvaluationKeeps s (evaluateNow s) := by
    rw [evaluateNow_of_processing frames]
    split
    · rename_i load
      obtain ⟨-, f, inFlight, ready⟩ := (loadDue_iff _).mp load
      unfold takeLoadStart
      rw [inFlight]
      exact keeps.loadStart (by rw [keeps.lif]; exact frames) ready
    · exact keeps
  have evaluateOff : (evaluateMarks s).bgv.evaluate = false := by rw [evaluateMarks_eq, raiseIf_bgv]; rfl
  refine ⟨evaluateNow s, exec_governorEvaluation calm frames noSwitch evaluate, keptNow.budget, keptNow.demand,
    fun none => ?_, fun load => ?_, fun short => ?_, fun c x live other => ?_, fun fits => ?_, keptNow.mem, keptNow.scenes,
    keptNow.stack, keptNow.sceneLive, keptNow.chp, keptNow.tfu, keptNow.tun, keptNow.ort, keptNow.lif, keptNow.pending,
    keptNow.guardState, keptNow.queue, keptNow.counters⟩
  · rw [evaluateNow_of_processing frames, none, if_neg Bool.false_ne_true]
    exact ⟨rfl, evaluateOff⟩
  · rw [evaluateNow_of_processing frames, if_pos load]
    exact congrArg Host.Outcome.next (attempt_after_contexts still load)
  · refine ⟨evaluationCourse s, evaluationCourse_passes s short, evaluationCourse_bypassed s, ?_⟩
    rw [evaluateMarks_eq]
    generalize evaluationCourse s = e
    refine ⟨fun changed => ?_, fun unchanged => ?_⟩
    · rw [(governTold_iff e s).mpr changed]
      rfl
    · rw [Bool.eq_false_iff.mpr fun told => unchanged ((governTold_iff e s).mp told)]
      rfl
  · obtain ⟨state, pan, records, procs, blocks⟩ := keptNow.live c x live other
    exact ⟨state.trans live, pan, records, procs, blocks⟩
  · rw [evaluateNow_of_processing frames, fitted fits, if_neg Bool.false_ne_true, evaluateMarks_eq,
      evaluationCourse_of_fits fits, raiseIf_eq]
    have unmarked (c : Fin 4) : s.runSet.atRequest.bypass[c] = false := by simp [RunSet.atRequest]
    exact ⟨rfl, rfl, rfl, rfl, rfl, unmarked, rfl, rfl⟩

end Sys2Proof.Machine

namespace Sys2Proof.Machine

set_option Elab.async false

/-! ### What keeps the link record and the assembler

The rows before a frame keep the link record, the lane's assembler and a parcel that has arrived; a parcel that executes keeps
them too, but for the slot formats that *Write Link Format* sets (R178). -/

/-- The link record, the lane's assembler and the parcel that has arrived. -/
structure LinkLane where
  lif : Lif
  assembler : Assembler
  arrived : Option (List Word)

def State.linkLane (s : State) : LinkLane := ⟨s.lif, s.lct.assembler, s.lct.arrived⟩

section
variable (s : State)

theorem linkLane_noticeIfDue : (noticeIfDue s).linkLane = s.linkLane := by
  unfold noticeIfDue
  split <;> rfl

theorem linkLane_raise (k : NoticeClass) : (raise k s).linkLane = s.linkLane := linkLane_noticeIfDue s

theorem linkLane_raiseIf (p : Bool) (k : NoticeClass) : (raiseIf p k s).linkLane = s.linkLane := by
  cases p
  · rfl
  · exact linkLane_raise s k

theorem linkLane_leaveFade (c : Fin 4) (x : Fin 2) : (leaveFade c x s).linkLane = s.linkLane := by
  unfold leaveFade
  split <;> rfl

/-! #### Evaluations and loads -/

theorem linkLane_evaluateMarks : (evaluateMarks s).linkLane = s.linkLane := by
  rw [evaluateMarks_eq]
  exact linkLane_raiseIf _ _ _

/-- Steps taken in turn keep what each of them keeps. -/
theorem linkLane_foldl {α : Type} {f : State → α → State} (step : ∀ s a, (f s a).linkLane = s.linkLane) (l : List α) :
    (l.foldl f s).linkLane = s.linkLane :=
  List.foldlRecOn (motive := fun t => t.linkLane = s.linkLane) _ _ rfl fun t h a _ => (step t a).trans h

theorem linkLane_loadChain (f : InFlight) (c : Fin 4) : (loadChain f s c).linkLane = s.linkLane := by
  unfold loadChain
  dsimp only
  split <;> rfl

theorem linkLane_loadChains (f : InFlight) : (loadChains f s).linkLane = s.linkLane :=
  linkLane_foldl s (fun s c => linkLane_loadChain s f c) chains

theorem linkLane_evaluateNow : (evaluateNow s).linkLane = s.linkLane := by
  have marks := linkLane_evaluateMarks s
  unfold evaluateNow
  dsimp only
  split
  · split
    · rename_i f _
      have loaded := (linkLane_loadChains (evaluateMarks s) f).trans marks
      split
      · exact loaded
      · split
        · exact loaded
        · exact (linkLane_evaluateMarks _).trans loaded
    · exact marks
  · exact marks

theorem linkLane_evaluationEvent : (evaluationEvent s).linkLane = s.linkLane := by
  unfold evaluationEvent
  split
  · rfl
  · exact linkLane_evaluateNow s

theorem linkLane_evaluationEventIf (p : Bool) : (evaluationEventIf p s).linkLane = s.linkLane := by
  cases p
  · rfl
  · exact linkLane_evaluationEvent s

theorem linkLane_loadStart (f : InFlight) : (loadStart f s).linkLane = s.linkLane :=
  (linkLane_evaluationEventIf _ _).trans (linkLane_loadChains s f)

/-! #### Requests -/

theorem linkLane_endRequest (o : SceneOutcome) (r : Request) (n : Option (Fin 128)) :
    (endRequest o r n s).linkLane = s.linkLane :=
  linkLane_raise _ _

theorem linkLane_cutsBeforeLoad (f : InFlight) : (cutsBeforeLoad f s).linkLane = s.linkLane := by
  refine (linkLane_foldl _ (fun s cx => ?_) _).trans (linkLane_foldl s (fun s c => ?_) _)
  · unfold cutForNeed
    split <;> rfl
  · unfold cutStandby
    split <;> rfl

theorem linkLane_beginChange (r : Request) (n : Fin 128) (scene : Scene) :
    (beginChange r n scene s).linkLane = s.linkLane := by
  have told (p : Bool) (f : InFlight) (m : State) (same : m.linkLane = s.linkLane) :
      (evaluationEventIf p (writeSceneBox (cutsBeforeLoad f m))).linkLane = s.linkLane :=
    (linkLane_evaluationEventIf _ _).trans ((linkLane_cutsBeforeLoad m f).trans same)
  unfold beginChange
  dsimp only
  split
  · exact (linkLane_loadStart _ _).trans (told _ _ _ rfl)
  · exact told _ _ _ rfl

theorem linkLane_startRequest (r : Request) : (startRequest r s).1.linkLane = s.linkLane := by
  unfold startRequest
  split
  · exact linkLane_endRequest s _ _ _
  · split
    · refine (linkLane_endRequest _ _ _ _).trans ?_
      cases r <;> rfl
    · split
      · exact linkLane_endRequest s _ _ _
      · exact linkLane_beginChange s _ _ _

theorem linkLane_receiveRequest (r : Request) : (receiveRequest r s).1.linkLane = s.linkLane := by
  unfold receiveRequest
  split
  · exact linkLane_startRequest s r
  · split
    · rfl
    · exact linkLane_endRequest _ _ _ _

theorem linkLane_takePendingStart : (takePendingStart s).linkLane = s.linkLane := by
  unfold takePendingStart
  split
  · exact linkLane_startRequest _ _
  · rfl

theorem linkLane_startIfDue : (startIfDue s).linkLane = s.linkLane := by
  unfold startIfDue
  split
  · exact linkLane_takePendingStart s
  · rfl

theorem linkLane_requestArrives (r : Request) : (requestArrives r s).1.linkLane = s.linkLane :=
  (linkLane_receiveRequest _ r).trans (linkLane_startIfDue s)

/-! #### The switch and the tempo -/

theorem linkLane_sceneTempo (scene : Scene) : (sceneTempo scene s).linkLane = s.linkLane := by
  unfold sceneTempo
  split <;> rfl

theorem linkLane_switchChain (f : InFlight) (c : Fin 4) : (switchChain f s c).linkLane = s.linkLane := by
  unfold switchChain
  dsimp only
  split
  · rfl
  · split <;> rfl
  · split
    · split <;> rfl
    · rfl

theorem linkLane_doSwitch (f : InFlight) : (doSwitch f s).linkLane = s.linkLane := by
  have moved : (sceneTempo f.copy (chains.foldl (switchChain f) s)).linkLane = s.linkLane :=
    (linkLane_sceneTempo _ _).trans (linkLane_foldl s (fun s c => linkLane_switchChain s f c) chains)
  unfold doSwitch
  refine (linkLane_evaluationEventIf _ _).trans ((linkLane_endRequest _ _ _ _).trans ?_)
  dsimp only
  split <;> exact moved

theorem linkLane_takeSwitch : (takeSwitch s).linkLane = s.linkLane := by
  unfold takeSwitch
  split
  · exact linkLane_doSwitch s _
  · rfl

theorem linkLane_takeTempoReset : (takeTempoReset s).linkLane = s.linkLane := by
  unfold takeTempoReset
  split
  · rfl
  · exact linkLane_raise _ _

/-! #### What comes before a frame -/

theorem linkLane_switchIfDue : (switchIfDue s).linkLane = s.linkLane := by
  unfold switchIfDue
  split
  · exact linkLane_takeSwitch s
  · rfl

theorem linkLane_evaluateIfDue : (evaluateIfDue s).linkLane = s.linkLane := by
  unfold evaluateIfDue
  split
  · exact linkLane_evaluateNow s
  · rfl

theorem linkLane_resetIfDue : (resetIfDue s).linkLane = s.linkLane := by
  unfold resetIfDue
  split
  · exact linkLane_takeTempoReset s
  · rfl

theorem linkLane_beforeFrame : (beforeFrame s).linkLane = s.linkLane :=
  (linkLane_resetIfDue _).trans ((linkLane_evaluateIfDue _).trans ((linkLane_switchIfDue _).trans
    ((linkLane_startIfDue _).trans (linkLane_switchIfDue s))))

/-! #### The tuner, live edits and taps -/

theorem linkLane_reportChannels (old : State) : (reportChannels old s).linkLane = s.linkLane := by
  refine (linkLane_raiseIf _ _ _).trans (linkLane_foldl s (fun s c => ?_) chains)
  unfold reportChannel
  split <;> rfl

theorem linkLane_setEngaged (engaged : Bool) : (setEngaged engaged s).linkLane = s.linkLane := linkLane_reportChannels _ _

theorem linkLane_editLive (c : Fin 4) (i n : Nat) (v : Int) : ∀ p ∈ editLive c i n v s, p.1.linkLane = s.linkLane := by
  unfold editLive
  split
  · split
    · rintro p ⟨⟩
      exact linkLane_evaluationEvent _
    · rintro p ⟨⟩
  · rintro p ⟨⟩

theorem linkLane_bypassLive (c : Fin 4) (i : Nat) (f : Bool → Bool) :
    ∀ p ∈ bypassLive c i f s, p.1.linkLane = s.linkLane := by
  unfold bypassLive
  split
  · rintro p ⟨⟩
    exact linkLane_evaluationEvent _
  · rintro p ⟨⟩

theorem linkLane_takeTap : (takeTap s).linkLane = s.linkLane := by
  unfold takeTap
  split <;> rfl

/-! #### The supply guard and *Restart* -/

theorem linkLane_guardMoved : (guardMoved s).linkLane = s.linkLane :=
  (linkLane_evaluationEvent _).trans (linkLane_raise s .supply)

theorem linkLane_forceOn : (forceOn s).linkLane = s.linkLane := by
  unfold forceOn
  split
  · exact linkLane_guardMoved _
  · rfl
  · rfl

theorem linkLane_forceOff : (forceOff s).linkLane = s.linkLane := by
  unfold forceOff
  split
  · split
    · split
      · rfl
      · exact linkLane_guardMoved _
    · exact linkLane_guardMoved _
  · rfl
  · rfl

theorem linkLane_abortInFlight : (abortInFlight s).linkLane = s.linkLane := by
  unfold abortInFlight
  split
  · split
    · exact linkLane_endRequest _ _ _ _
    · rfl
  · rfl

theorem linkLane_abortWaiting : (abortWaiting s).linkLane = s.linkLane := by
  unfold abortWaiting
  split
  · exact linkLane_endRequest _ _ _ _
  · rfl

theorem linkLane_restedCtxs : (restedCtxs s).linkLane = s.linkLane := by
  obtain ⟨only, lct, -, -⟩ := restedCtxs_leaves s
  unfold State.linkLane
  rw [only.lif, lct]

theorem linkLane_sceneAtRest : (sceneAtRest s).linkLane = s.linkLane := by
  unfold sceneAtRest
  refine (linkLane_raise _ _).trans ?_
  exact (linkLane_abortWaiting _).trans ((linkLane_abortInFlight _).trans (linkLane_restedCtxs s))

theorem linkLane_restartTuner : (restartTuner s).linkLane = s.linkLane := by
  unfold restartTuner
  exact linkLane_reportChannels _ s

theorem linkLane_restarted : (restarted s).linkLane = s.linkLane := by
  have scc : (restartScc s).linkLane = s.linkLane := by
    rw [restartScc_eq]
    exact (linkLane_evaluationEventIf _ _).trans (linkLane_sceneAtRest s)
  unfold restarted
  exact (linkLane_restartTuner _).trans scc

theorem linkLane_restart : (effRestart s).state.linkLane = s.linkLane := by
  rw [effRestart_eq, okWith_state, linkLane_restarted]
  rfl

/-! #### The parcels -/

theorem linkLane_withIndex (n a : Nat) (f : Fin n → Answer) (h : ∀ i, (f i).state.linkLane = s.linkLane) :
    (withIndex n a s f).state.linkLane = s.linkLane := by
  unfold withIndex
  split
  · exact h _
  · rfl

theorem linkLane_requestAnswer (r : Request) : (requestAnswer r s).state.linkLane = s.linkLane := by
  unfold requestAnswer
  dsimp only
  split <;> exact linkLane_requestArrives s r

theorem linkLane_setLiveParameter (body : List Word) : (effSetLiveParameter body s).state.linkLane = s.linkLane :=
  linkLane_withIndex s _ _ _ fun c => by
    split
    · rename_i p hp
      exact linkLane_editLive s c _ _ _ p hp
    · rfl

theorem linkLane_setStageBypass (body : List Word) : (effSetStageBypass body s).state.linkLane = s.linkLane :=
  linkLane_withIndex s _ _ _ fun c => by
    split
    · rename_i p hp
      exact linkLane_bypassLive s c _ _ p hp
    · rfl

theorem linkLane_writeSection (body : List Word) : (effWriteSection body s).state.linkLane = s.linkLane :=
  linkLane_withIndex s _ _ _ fun n => linkLane_withIndex s _ _ _ fun c => by
    split <;> rfl

theorem linkLane_writeStages (body : List Word) : (effWriteStages body s).state.linkLane = s.linkLane :=
  linkLane_withIndex s _ _ _ fun n => linkLane_withIndex s _ _ _ fun c => linkLane_withIndex s _ _ _ fun first => by
    split
    · rfl
    · split <;> rfl

theorem linkLane_readScene (body : List Word) : (effReadScene body s).state.linkLane = s.linkLane :=
  linkLane_withIndex s _ _ _ fun n => linkLane_withIndex s _ _ _ fun c => linkLane_withIndex s _ _ _ fun first => by
    split <;> rfl

theorem linkLane_readMailboxes (body : List Word) : (effReadMailboxes body s).state.linkLane = s.linkLane :=
  linkLane_withIndex s _ _ _ fun first => by
    dsimp only [okWith]
    split <;> rfl

theorem linkLane_readCounters (body : List Word) : (effReadCounters body s).state.linkLane = s.linkLane := by
  unfold effReadCounters okWith
  dsimp only
  split <;> rfl

/-- A run of a curve or a cabinet, which an index or a range check refuses, or which changes the store alone. -/
theorem linkLane_run (n m a b : Nat) (p : Fin n → Fin m → Prop) [∀ i j, Decidable (p i j)] (f : Fin n → Fin m → Answer)
    (h : ∀ i j, (f i j).state.linkLane = s.linkLane) :
    (withIndex n a s fun i => withIndex m b s fun j =>
      if p i j then refuse .range s else f i j).state.linkLane = s.linkLane :=
  linkLane_withIndex s _ _ _ fun i => linkLane_withIndex s _ _ _ fun j => by
    split
    · rfl
    · exact h i j

/-- Every kind but *Write Link Format* keeps the link record and the assembler. -/
theorem linkLane_kindEffect (k : Kind) (body : List Word) (other : k ≠ .writeLinkFormat) :
    (kindEffect k body s).state.linkLane = s.linkLane := by
  cases k with
  | writeLinkFormat => exact absurd rfl other
  | writeChainInput => exact linkLane_withIndex s _ _ _ fun _ => rfl
  | setLiveParameter => exact linkLane_setLiveParameter s body
  | setStageBypass => exact linkLane_setStageBypass s body
  | writeCurvePoints => exact linkLane_run s _ _ _ _ _ _ fun _ _ => rfl
  | readCurvePoints => exact linkLane_run s _ _ _ _ _ _ fun _ _ => rfl
  | writeCabTaps => exact linkLane_run s _ _ _ _ _ _ fun _ _ => rfl
  | readCabTaps => exact linkLane_run s _ _ _ _ _ _ fun _ _ => rfl
  | writeSceneHeader => exact linkLane_withIndex s _ _ _ fun _ => rfl
  | writeSection => exact linkLane_writeSection s body
  | writeStages => exact linkLane_writeStages s body
  | eraseScene => exact linkLane_withIndex s _ _ _ fun _ => rfl
  | readScene => exact linkLane_readScene s body
  | select => exact linkLane_withIndex s _ _ _ fun _ => linkLane_requestAnswer s _
  | call => exact linkLane_withIndex s _ _ _ fun _ => linkLane_requestAnswer s _
  | ret => exact linkLane_requestAnswer s _
  | tap => exact linkLane_takeTap s
  | writeFootswitchLine => exact linkLane_withIndex s _ _ _ fun _ => rfl
  | writeTunerChannel => exact linkLane_withIndex s _ _ _ fun _ => linkLane_reportChannels _ _
  | setTunerEngage => exact linkLane_setEngaged s _
  | writeRoute => exact linkLane_withIndex s _ _ _ fun _ => rfl
  | forceGuardOn => exact linkLane_forceOn s
  | forceGuardOff => exact linkLane_forceOff s
  | readMailboxes => exact linkLane_readMailboxes s body
  | readCounters => exact linkLane_readCounters s body
  | restart => exact linkLane_restart s
  | readPool => rfl
  | readContextStatus => rfl
  | setTempo => rfl
  | tempoReset => rfl
  | readFootswitchLog => rfl
  | setTunerReference => rfl
  | readRoutes => rfl
  | setPanic => rfl
  | showLockOn => rfl
  | showLockOff => rfl
  | permit => rfl
  | supplyCheck => rfl
  | readNotices => rfl
  | writeNoticeMask => rfl
  | identify => rfl

end

/-! #### The lane -/

/-- The two states agree in the assembler, the parcel that has arrived, and the link record but for its slot formats. -/
structure SameButFormats (s t : State) : Prop where
  lif : t.lif = { s.lif with inFormat := t.lif.inFormat, outFormat := t.lif.outFormat } := by rfl
  assembler : t.lct.assembler = s.lct.assembler := by rfl
  arrived : t.lct.arrived = s.lct.arrived := by rfl

theorem SameButFormats.trans {s t u : State} (h : SameButFormats s t) (g : SameButFormats t u) : SameButFormats s u where
  lif := by
    have step := g.lif
    rw [h.lif] at step
    exact step
  assembler := g.assembler.trans h.assembler
  arrived := g.arrived.trans h.arrived

theorem sameButFormats_of_linkLane {s t : State} (h : t.linkLane = s.linkLane) : SameButFormats s t where
  lif := by
    have lif : t.lif = s.lif := congrArg LinkLane.lif h
    rw [lif]
  assembler := congrArg LinkLane.assembler h
  arrived := congrArg LinkLane.arrived h

theorem kindEffect_sameButFormats (k : Kind) (body : List Word) (s : State) :
    SameButFormats s (kindEffect k body s).state := by
  by_cases format : k = .writeLinkFormat
  · subst format
    exact {}
  · exact sameButFormats_of_linkLane (linkLane_kindEffect s k body format)

theorem parcelAnswer_sameButFormats (p : Parcel) (s : State) : SameButFormats s (parcelAnswer p s).state := by
  unfold parcelAnswer
  split
  · exact {}
  · split
    · exact {}
    · split
      · exact {}
      · exact SameButFormats.trans (t := consumePermit s) {} (kindEffect_sameButFormats _ _ _)

theorem executeParcel_sameButFormats (p : Parcel) (s : State) : SameButFormats s (executeParcel p s) := by
  obtain ⟨lif, assembler, arrived⟩ := parcelAnswer_sameButFormats p (executing s)
  exact ⟨lif, assembler, arrived⟩

theorem drainHold_sameButFormats (fuel : Nat) (s : State) : SameButFormats s (drainHold fuel s) := by
  induction fuel generalizing s with
  | zero => exact {}
  | succ fuel ih =>
    unfold drainHold
    split
    · exact {}
    · rename_i p rest _
      split
      · refine SameButFormats.trans ?_ (ih _)
        exact SameButFormats.trans (t := { s with lct := { s.lct with hold := rest } }) {}
          (executeParcel_sameButFormats p _)
      · exact {}

theorem linkLane_takeLaneWord (s : State) : (takeLaneWord s).2.linkLane = s.linkLane := by
  unfold takeLaneWord
  split <;> rfl

/-- The lane word leaves and held parcels execute: of the link record they can change the slot formats alone. -/
theorem laneOut_sameButFormats (s : State) : SameButFormats s (laneOut s).2 :=
  (sameButFormats_of_linkLane ((linkLane_takeLaneWord _).trans (linkLane_noticeIfDue s))).trans
    (drainHold_sameButFormats 2 _)

end Sys2Proof.Machine

namespace Sys2Proof.Machine

set_option Elab.async false

/-! ### A processed frame (R4, R96, R121, R139, R143) -/

/-! #### The tuner -/

/-- A channel after the frame: a measuring one takes its sample (R121). -/
def sampledChannel (inputs : Vector Int 4) (c : Fin 4) (s : State) : Channel :=
  if measures s.tun.channels[c].mode s.tun.engaged then
    (sampleStep s.hz s.tun.reference s.tun.channels[c] inputs[c]).channel
  else s.tun.channels[c]

/-- A channel's mailbox after the frame: written at a completed window and at a change of state (R128). -/
def sampledBox (inputs : Vector Int 4) (c : Fin 4) (s : State) : Box TunerRecord :=
  let k := s.tun.channels[c]
  let r := sampleStep s.hz s.tun.reference k inputs[c]
  if measures k.mode s.tun.engaged ∧ (r.window = true ∨ r.channel.state ≠ k.state) then
    ⟨⟨r.channel.state, r.channel.reading, s.tun.mute c⟩, true⟩
  else s.lct.boxes.tuner[c]

/-- The channels and their mailboxes replaced. -/
def withTuner (channels : Vector Channel 4) (boxes : Vector (Box TunerRecord) 4) (s : State) : State :=
  { s with
    tun := { s.tun with channels := channels }
    lct := { s.lct with boxes := { s.lct.boxes with tuner := boxes } } }

theorem sampleStep_mute (hz reference : Nat) (k : Channel) (x : Int) :
    (sampleStep hz reference k x).channel.muteOnEngage = k.muteOnEngage := by
  unfold sampleStep
  dsimp only
  split
  · split <;> rfl
  · split <;> rfl

theorem channelFrame_eq (inputs : Vector Int 4) (s : State) (c : Fin 4) : channelFrame inputs s c =
    withTuner (upd s.tun.channels c (sampledChannel inputs c s)) (upd s.lct.boxes.tuner c (sampledBox inputs c s)) s := by
  have mute := sampleStep_mute s.hz s.tun.reference s.tun.channels[c] inputs[c]
  unfold channelFrame sampledChannel sampledBox
  dsimp only
  cases on : measures s.tun.channels[c].mode s.tun.engaged with
  | false =>
    rw [if_neg Bool.false_ne_true, if_neg Bool.false_ne_true, if_neg fun h => Bool.false_ne_true h.1, upd_same, upd_same]
    rfl
  | true =>
    rw [if_pos rfl, if_pos rfl]
    generalize sampleStep s.hz s.tun.reference s.tun.channels[c] inputs[c] = r at *
    have record : tunerRecord c (putChannel c r.channel s) = ⟨r.channel.state, r.channel.reading, s.tun.mute c⟩ := by
      unfold tunerRecord putChannel Tun.mute
      dsimp only
      rw [upd_self, mute]
    have told : (r.window || decide (s.tun.channels[c].state ≠ r.channel.state)) = true ↔
        (r.window = true ∨ r.channel.state ≠ s.tun.channels[c].state) := by
      rw [Bool.or_eq_true, decide_eq_true_eq, ne_comm]
    by_cases written : r.window = true ∨ r.channel.state ≠ s.tun.channels[c].state
    · rw [if_pos (told.mpr written), if_pos ⟨rfl, written⟩, ← record]
      rfl
    · rw [if_neg fun h => written (told.mp h), if_neg fun h => written h.2, upd_same]
      rfl

theorem sampledChannel_other {inputs : Vector Int 4} {c d : Fin 4} {s : State} (k : Channel)
    (b : Vector (Box TunerRecord) 4) (ne : c ≠ d) : sampledChannel inputs c (withTuner (upd s.tun.channels d k) b s) = sampledChannel inputs c s := by
  unfold sampledChannel withTuner State.hz
  dsimp only
  rw [upd_other _ _ ne]

theorem sampledBox_other {inputs : Vector Int 4} {c d : Fin 4} {s : State} (k : Channel) (b : Box TunerRecord)
    (ne : c ≠ d) : sampledBox inputs c (withTuner (upd s.tun.channels d k) (upd s.lct.boxes.tuner d b) s) =
      sampledBox inputs c s := by
  unfold sampledBox withTuner State.hz Tun.mute
  dsimp only
  rw [upd_other _ _ ne, upd_other _ _ ne]

/-- The channels take their samples one by one. -/
theorem foldl_channelFrame (inputs : Vector Int 4) (l : List (Fin 4)) : ∀ s : State, l.Nodup →
    ∃ (ks : Vector Channel 4) (bs : Vector (Box TunerRecord) 4), l.foldl (channelFrame inputs) s = withTuner ks bs s ∧
      ∀ c : Fin 4, ks[c] = (if c ∈ l then sampledChannel inputs c s else s.tun.channels[c]) ∧
        bs[c] = (if c ∈ l then sampledBox inputs c s else s.lct.boxes.tuner[c]) := by
  induction l with
  | nil => exact fun s _ => ⟨_, _, rfl, fun c => ⟨rfl, rfl⟩⟩
  | cons d rest ih =>
    intro s nodup
    obtain ⟨fresh, nodup⟩ := List.nodup_cons.mp nodup
    obtain ⟨ks, bs, eq, get⟩ := ih (channelFrame inputs s d) nodup
    rw [channelFrame_eq] at eq get
    refine ⟨ks, bs, (congrArg (rest.foldl (channelFrame inputs)) (channelFrame_eq inputs s d)).trans eq, fun c => ?_⟩
    obtain ⟨channel, box⟩ := get c
    rw [channel, box]
    by_cases here : c = d
    · subst here
      rw [if_neg fresh, if_neg fresh, if_pos List.mem_cons_self, if_pos List.mem_cons_self]
      exact ⟨upd_self _ _ _, upd_self _ _ _⟩
    · rw [sampledChannel_other _ _ here, sampledBox_other _ _ here]
      simp only [List.mem_cons, here, false_or]
      refine ⟨?_, ?_⟩
      · congr 1
        exact upd_other _ _ here
      · congr 1
        exact upd_other _ _ here

/-- The tuner's part of a frame before TUNER joins. -/
def tunerSamples (inputs : Vector Int 4) (s : State) : State :=
  withTuner (tab fun c => sampledChannel inputs c s) (tab fun c => sampledBox inputs c s) s

theorem tunerFrame_eq (inputs : Vector Int 4) (s : State) : tunerFrame inputs s =
    raiseIf (anyReadyChanged s (tunerSamples inputs s)) .tuner (tunerSamples inputs s) := by
  obtain ⟨ks, bs, eq, get⟩ := foldl_channelFrame inputs chains s chains_nodup
  have channels : ks = tab fun c => sampledChannel inputs c s := Vector.ext fun i h => by
    have at_ := (get ⟨i, h⟩).1
    rw [if_pos (mem_chains _)] at at_
    simpa using at_
  have boxes : bs = tab fun c => sampledBox inputs c s := Vector.ext fun i h => by
    have at_ := (get ⟨i, h⟩).2
    rw [if_pos (mem_chains _)] at at_
    simpa using at_
  have all : chains.foldl (channelFrame inputs) s = tunerSamples inputs s := by rw [eq, channels, boxes]; rfl
  unfold tunerFrame
  rw [all]

theorem anyReadyChanged_iff (s t : State) : anyReadyChanged s t = true ↔
    ∃ c : Fin 4, ¬ (s.tun.channels[c].state = .ready ↔ t.tun.channels[c].state = .ready) := by
  have each (a b : ChannelState) : readyChanged a b = true ↔ ¬ (a = .ready ↔ b = .ready) := by
    unfold readyChanged
    by_cases a = .ready <;> by_cases b = .ready <;> simp [*]
  unfold anyReadyChanged
  rw [List.any_eq_true]
  exact ⟨fun ⟨c, _, changed⟩ => ⟨c, (each _ _).mp changed⟩, fun ⟨c, changed⟩ => ⟨c, mem_chains c, (each _ _).mpr changed⟩⟩

/-- The tuner's frame, on a state that agrees with s in all that the tuner reads and tells. -/
theorem tunerSampled {inputs : Vector Int 4} {s a t : State} (tun : a.tun = s.tun) (hz : a.hz = s.hz)
    (boxes : a.lct.boxes.tuner = s.lct.boxes.tuner) (lane : a.lane = s.lane)
    (tunT : t.tun = (tunerFrame inputs a).tun) (boxesT : t.lct.boxes.tuner = (tunerFrame inputs a).lct.boxes.tuner)
    (laneT : t.lane = (tunerFrame inputs a).lane) : TunerSampled inputs s t := by
  have channels (c : Fin 4) : t.tun.channels[c] = sampledChannel inputs c a := by
    rw [tunT, tunerFrame_eq, raiseIf_tun]
    simp [tunerSamples, withTuner]
  have mailbox (c : Fin 4) : t.lct.boxes.tuner[c] = sampledBox inputs c a := by
    rw [boxesT, tunerFrame_eq, raiseIf_boxes]
    simp [tunerSamples, withTuner]
  have same (c : Fin 4) : (tunerSamples inputs a).tun.channels[c] = t.tun.channels[c] := by
    rw [tunT, tunerFrame_eq, raiseIf_tun]
  have told : anyReadyChanged a (tunerSamples inputs a) = true ↔
      ∃ c : Fin 4, ¬ (s.tun.channels[c].state = .ready ↔ t.tun.channels[c].state = .ready) := by
    rw [anyReadyChanged_iff, tun]
    simp only [same]
  rw [tunerFrame_eq, lane_raiseIf] at laneT
  have lane : (tunerSamples inputs a).lane = s.lane := lane
  rw [lane] at laneT
  refine ⟨?_, fun c => ⟨fun off => ?_, fun on => ⟨?_, fun written => ?_, fun none same => ?_⟩⟩, fun still => ?_,
    fun moved => ?_⟩
  · rw [tunT, tunerFrame_eq, raiseIf_tun, ← tun]
    rfl
  · rw [channels, mailbox]
    unfold sampledChannel sampledBox
    rw [tun, off, boxes]
    exact ⟨rfl, if_neg fun h => Bool.false_ne_true (off.symm.trans h.1)⟩
  · rw [channels]
    unfold sampledChannel
    rw [tun, hz, if_pos on]
  · rw [mailbox]
    unfold sampledBox
    rw [tun, hz]
    exact if_pos ⟨on, written⟩
  · rw [mailbox]
    unfold sampledBox
    rw [tun, hz, boxes]
    exact if_neg fun h => h.2.elim (fun w => Bool.false_ne_true (none.symm.trans w)) fun ne => ne same
  · have no : anyReadyChanged a (tunerSamples inputs a) = false :=
      Bool.eq_false_iff.mpr fun yes => (told.mp yes).elim fun c moved => moved (still c)
    rw [no] at laneT
    exact ⟨congrArg Lane.queue laneT, congrArg Lane.notices laneT⟩
  · rw [told.mpr moved] at laneT
    have raised : t.lane = (raise .tuner s).lane := laneT.trans (lane_raise .tuner s).symm
    exact ⟨congrArg Lane.queue raised, congrArg Lane.notices raised⟩

/-! #### The frame of the part -/

/-- The state of a frame once the tuner has run. -/
def sampledState (inbound : Vector Int 8) (s : State) : State :=
  tunerFrame (chainInputs s.chp.inputs inbound) (chainsFrame inbound s)

theorem sampledState_leaves (inbound : Vector Int 8) (s : State) : sampledState inbound s =
    { chainsFrame inbound s with tun := (sampledState inbound s).tun, lct := (sampledState inbound s).lct } := by
  unfold sampledState
  rw [tunerFrame_eq, raiseIf_eq]
  rfl

theorem sampledState_desk (inbound : Vector Int 8) (s : State) : SameDesk s (sampledState inbound s) := by
  have first : SameDesk s (tunerSamples (chainInputs s.chp.inputs inbound) (chainsFrame inbound s)) := {}
  unfold sampledState
  rw [tunerFrame_eq]
  exact first.trans (sameDesk_raiseIf _ _ _)

theorem sampledState_boxes (inbound : Vector Int 8) (s : State) : (sampledState inbound s).lct.boxes =
    { s.lct.boxes with tuner := (sampledState inbound s).lct.boxes.tuner } := by
  unfold sampledState
  rw [tunerFrame_eq, raiseIf_boxes]
  rfl

/-- The tuner's frame changes no mute request. -/
theorem sampledState_mute (inbound : Vector Int 8) (s : State) : (sampledState inbound s).tun.mute = s.tun.mute := by
  funext c
  unfold sampledState
  rw [tunerFrame_eq, raiseIf_tun]
  unfold tunerSamples withTuner Tun.mute sampledChannel
  simp only [Fin.getElem_fin, tab_get]
  split
  · rw [sampleStep_mute]
    rfl
  · rfl

/-- The return of SCC to IDLE writes no mailbox but its own (R85). -/
theorem returnIfDone_lct (s : State) : (returnIfDone s).lct =
    { s.lct with boxes := { s.lct.boxes with scene := (returnIfDone s).lct.boxes.scene } } := by
  unfold returnIfDone
  split <;> rfl

/-- The output samples of a frame. -/
def frameOutputs (inbound : Vector Int 8) (s : State) : Vector Int 8 :=
  (routerFrame inbound { s with chp := (chainsFrame inbound s).chp }).lif.newer

/-- What a processed frame leaves, block by block. -/
structure FrameRan (inbound : Vector Int 8) (s t : State) : Prop where
  chp : t.chp = { s.chp with outputs := (chainsRun inbound s).outputs }
  dpl : t.dpl = { s.dpl with mem := (chainsRun inbound s).mem }
  scc : t.scc = { s.scc with
    ctxs := (chainsRun inbound s).ctxs, fades := (chainsRun inbound s).fades
    change := t.scc.change, inFlight := t.scc.inFlight }
  tun : t.tun = (sampledState inbound s).tun
  ort : t.ort = (routerFrame inbound { s with chp := (chainsFrame inbound s).chp }).ort
  lif : t.lif = { s.lif with older := s.lif.newer, newer := frameOutputs inbound s }
  tfu : t.tfu = { s.tfu with phase := s.tfu.phase + 1, frames := s.tfu.frames + 1 }
  bgv : t.bgv = s.bgv
  pending : t.pending = s.pending
  lane : t.lane = (sampledState inbound s).lane
  desk : SameDesk s t
  boxes : t.lct.boxes = { s.lct.boxes with
    tuner := (sampledState inbound s).lct.boxes.tuner
    meters := tab fun i => meterUpdate s.lct.boxes.meters[i] (frameOutputs inbound s)[i]
    scene := t.lct.boxes.scene }

theorem processFrame_ran (inbound : Vector Int 8) (s : State) : FrameRan inbound s (processFrame inbound s) := by
  have eq : processFrame inbound s = returnIfDone (advanceClock (routerFrame inbound (sampledState inbound s))) := rfl
  have leaves := sampledState_leaves inbound s
  have desk := sampledState_desk inbound s
  have boxes := sampledState_boxes inbound s
  have mute := sampledState_mute inbound s
  rw [eq]
  generalize ran : sampledState inbound s = b at *
  have outs : slotOutputs inbound b = frameOutputs inbound s := by
    unfold frameOutputs routerFrame slotOutputs decidedOwners
    rw [mute, leaves]
    rfl
  have owners : decidedOwners b = decidedOwners { s with chp := (chainsFrame inbound s).chp } := by
    unfold decidedOwners
    rw [mute, leaves]
    rfl
  have rest := returnIfDone_leaves (advanceClock (routerFrame inbound b))
  have lct := returnIfDone_lct (advanceClock (routerFrame inbound b))
  generalize returnIfDone (advanceClock (routerFrame inbound b)) = t at *
  have routed : (routerFrame inbound b).lct = { b.lct with boxes := { b.lct.boxes with
    meters := tab fun i => meterUpdate b.lct.boxes.meters[i] (slotOutputs inbound b)[i] } } := rfl
  have line : (advanceClock (routerFrame inbound b)).lct = (routerFrame inbound b).lct := rfl
  have first : SameDesk b t := by
    rw [line, routed] at lct
    exact ⟨by rw [lct], by rw [lct], by rw [lct], by rw [lct], by rw [lct], by rw [lct], by rw [lct]⟩
  refine ⟨?_, ?_, ?_, ?_, ?_, ?_, ?_, ?_, ?_, ?_, desk.trans first, ?_⟩
  · rw [rest, leaves]; rfl
  · rw [rest, leaves]; rfl
  · rw [rest]; dsimp only; rw [leaves]; rfl
  · rw [rest, ran]; rfl
  · rw [rest]
    show { b.ort with owners := tab fun i => (decidedOwners b)[i].advance } = _
    rw [owners, leaves]
    rfl
  · rw [rest]
    show { b.lif with older := b.lif.newer, newer := slotOutputs inbound b } = _
    rw [outs, leaves]
    rfl
  · rw [rest, leaves]; rfl
  · rw [rest, leaves]; rfl
  · rw [rest, leaves]; rfl
  · unfold State.lane
    rw [lct, line, routed, ran]
  · rw [lct, line, routed, outs, boxes, ran]

/-! #### What reaches the frame before it is processed -/

/-- The state with its link record and its lane replaced. -/
def withLine (l : Lif) (k : Lct) (s : State) : State := { s with lif := l, lct := k }

/-- The link record and the lane as a good, a failed or a missing frame leaves them before it is processed: the hold samples,
the expected number and the misses, and the assembler, the counters and mailbox 7, can have changed. -/
structure LineOnly (s : State) (l : Lif) (k : Lct) : Prop where
  lif : l = { s.lif with held := l.held, expected := l.expected, misses := l.misses } := by rfl
  lct : k = { s.lct with
    assembler := k.assembler, arrived := k.arrived, counters := k.counters
    boxes := { s.lct.boxes with link := k.boxes.link } } := by rfl

section
variable {s : State} {l : Lif} {k : Lct} {inbound : Vector Int 8}

theorem LineOnly.lane (h : LineOnly s l k) : (withLine l k s).lane = s.lane := by
  show (⟨k.queue, k.notices, k.mask, k.headSent⟩ : Lane) = _
  rw [h.lct]
  rfl

theorem LineOnly.hz (h : LineOnly s l k) : (withLine l k s).hz = s.hz := by
  show (l.rate.getD .r48000).hz = _
  rw [h.lif]
  rfl

/-- The tuner's part of the frame. -/
theorem tunerSampled_of_ran {t : State} (h : LineOnly s l k) (ran : FrameRan inbound (withLine l k s) t) :
    TunerSampled (chainInputs s.chp.inputs inbound) s t := by
  refine tunerSampled (a := chainsFrame inbound (withLine l k s)) rfl h.hz ?_ h.lane ran.tun ?_ ran.lane
  · show k.boxes.tuner = _
    rw [h.lct]
  · rw [ran.boxes]
    rfl

theorem isSample_slotOutput (trim : Nat) (x : Int) : IsSample (slotOutput trim x) := saturate_bounds _

theorem frameOutputs_get (i : Fin 8) : IsSample (frameOutputs inbound s)[i] := by
  unfold frameOutputs routerFrame slotOutputs
  simp only [setBoxes_lif, Fin.getElem_fin, tab_get]
  exact isSample_slotOutput _ _

/-- A frame that has run, as the state before it was received tells of it. -/
theorem processedFrom_of_ran {t : State} (h : LineOnly s l k) (ran : FrameRan inbound (withLine l k s) t) :
    ProcessedFrom s t inbound := by
  have tuner := tunerSampled_of_ran h ran
  obtain ⟨chp, dpl, scc, -, ort, lif, tfu, bgv, pending, lane, ⟨-, -, hold, mask, -, showLocked, permit⟩, boxes⟩ := ran
  have outputs : t.lif.newer = frameOutputs inbound (withLine l k s) := by rw [lif]
  have lct := h.lct
  have routed : (routerFrame inbound { s with chp := t.chp }).lif.newer = frameOutputs inbound (withLine l k s) := by
    rw [chp]; rfl
  refine ⟨?_, ?_, ?_, ?_, ?_, tuner, ?_, outputs.trans routed.symm, fun i => ?_, fun i => ?_, tfu, ?_, ?_, ?_, ?_, ?_, ?_, ?_,
    ?_, ?_, ?_, bgv, ?_, ?_, ?_, ?_, ?_, ?_, ?_, pending⟩
  · rw [chp]; rfl
  · rw [scc]; rfl
  · rw [scc]; rfl
  · rw [dpl]; rfl
  · rw [dpl]; rfl
  · rw [ort, chp]; rfl
  · rw [outputs]; exact frameOutputs_get i
  · rw [boxes, outputs]
    have meters : (withLine l k s).lct.boxes.meters = s.lct.boxes.meters := by
      show k.boxes.meters = _
      rw [lct]
    simp only [Fin.getElem_fin, tab_get, meters]
    rfl
  · rw [chp]; rfl
  · rw [chp]; rfl
  · rw [chp]; rfl
  · rw [scc]; rfl
  · rw [scc]; rfl
  · rw [scc]; rfl
  · rw [scc]; rfl
  · rw [scc]; rfl
  · rw [ort]; rfl
  · rw [ort]; rfl
  · rw [showLocked]; show k.showLocked = _; rw [lct]
  · rw [permit]; show k.permit = _; rw [lct]
  · rw [hold]; show k.hold = _; rw [lct]
  · rw [mask]; show k.mask = _; rw [lct]
  · rw [boxes]; show k.boxes.tempo = _; rw [lct]
  · rw [boxes]; show k.boxes.supply = _; rw [lct]
  · rw [boxes]; show k.boxes.governor = _; rw [lct]

end

/-! #### The processed frame and the outbound one -/

/-- What a frame leaves, for a state whose link record and lane are those of the frame before it was processed. -/
structure FrameSent (number : BitVec 8) (inbound : Vector Int 8) (lane : Word) (s : State) (l : Lif) (k : Lct)
    (t : State) : Prop where
  sent : SentAfter lane s t number
  processed : ProcessedFrom s t inbound
  lif : t.lif = { l with
    outNumber := number, sent := t.lif.sent, older := s.lif.newer, newer := t.lif.newer }
  assembler : t.lct.assembler = k.assembler
  arrived : t.lct.arrived = k.arrived
  counters : t.lct.counters = k.counters
  link : t.lct.boxes.link = k.boxes.link

/-- An outbound frame behind a frame that has moved the line on (R176). -/
theorem sentAfter_sendFrame (number : BitVec 8) (lane : Word) {s p : State} (older : p.lif.older = s.lif.newer)
    (format : p.lif.outFormat = s.lif.outFormat) : SentAfter lane s (sendFrame number s.lif.older lane p) number := by
  refine ⟨rfl, older, buildFrame number (tab fun i => p.lif.outFormat.slotWord s.lif.older[i]) lane, rfl, rfl,
    fun i => ?_, rfl, ?_⟩
  · simp only [buildFrame, Fin.getElem_fin, tab_get]
    rw [format]
  · simp only [buildFrame]

theorem runFrame_sent (number : BitVec 8) (inbound : Vector Int 8) (lane : Word) {s : State} {l : Lif} {k : Lct}
    (h : LineOnly s l k) : FrameSent number inbound lane s l k (runFrame number inbound lane (withLine l k s)) := by
  have ran := processFrame_ran inbound (withLine l k s)
  have processed := processedFrom_of_ran h ran
  have lif := h.lif
  unfold runFrame sendFrame
  generalize processFrame inbound (withLine l k s) = p at *
  have linked : p.lif = { l with older := l.newer, newer := frameOutputs inbound (withLine l k s) } := ran.lif
  have newer : l.newer = s.lif.newer := by rw [lif]
  have format : p.lif.outFormat = s.lif.outFormat := by rw [linked, lif]
  have older : l.older = s.lif.older := by rw [lif]
  have sent := sentAfter_sendFrame number lane (s := s) (by rw [linked, newer]) format
  rw [← older] at sent
  refine ⟨sent, processed, ?_, ran.desk.assembler, ran.desk.arrived, ran.desk.counters, ?_⟩
  · rw [setLif_lif, linked, ← newer]
  · show p.lct.boxes.link = _
    rw [ran.boxes]
    rfl

/-- A frame on silence (R174, R176). -/
theorem runFrame_silent (lane : Word) (s : State) :
    Silent lane s (runFrame (s.lif.outNumber + 1) silence lane s) := by
  obtain ⟨sent, processed, lif, assembler, arrived, counters, link⟩ :=
    runFrame_sent (s.lif.outNumber + 1) silence lane (s := s) (l := s.lif) (k := s.lct) {}
  exact ⟨sent, processed, lif, assembler, arrived, counters, link⟩

theorem concealedFrame_sent (misses : Nat) (lane : Word) (s : State) :
    FrameSent (concealedNumber s.lif) s.lif.held lane s (conceal misses s).lif (conceal misses s).lct
      (concealedFrame misses lane s) := runFrame_sent _ _ lane {}

/-- A concealed frame (R171, R176). -/
theorem concealedFrame_concealed (misses : Nat) (lane : Word) (s : State) :
    Concealed lane s (concealedFrame misses lane s) ∧ (concealedFrame misses lane s).lif.misses = misses := by
  obtain ⟨sent, processed, lif, assembler, arrived, counters, link⟩ := concealedFrame_sent misses lane s
  generalize concealedFrame misses lane s = t at *
  have number : t.lif.outNumber = concealedNumber s.lif := sent.1
  have missed : t.lif.misses = misses := by rw [lif]; rfl
  refine ⟨⟨sent, processed, ?_, assembler, arrived, counters, link⟩, missed⟩
  rw [number, missed]
  exact lif

/-! #### The assembler (R180) -/

/-- What the assembler does with a lane word: of the lane it moves itself, a parcel that completes, and the noise counter. -/
structure Assembled (w : Word) (u t : State) : Prop where
  rest : t = { u with lct := { u.lct with
    assembler := t.lct.assembler, arrived := t.lct.arrived
    counters := { u.lct.counters with noise := t.lct.counters.noise } } }
  outside : u.lct.assembler = .outside → t.lct.arrived = u.lct.arrived ∧
    (w = 0 → t.lct.assembler = .outside ∧ t.lct.counters.noise = u.lct.counters.noise) ∧
    (isLead w = true → t.lct.assembler = .inside [w] (leadLength w + 2) ∧
      t.lct.counters.noise = u.lct.counters.noise) ∧
    (w ≠ 0 → isLead w = false → t.lct.assembler = .outside ∧
      t.lct.counters.noise = min 65535 (u.lct.counters.noise + 1))
  inside : ∀ (words : List Word) (left : Nat), u.lct.assembler = .inside words left →
    t.lct.counters.noise = u.lct.counters.noise ∧
    (left ≤ 1 → t.lct.assembler = .outside ∧ t.lct.arrived = some (words ++ [w])) ∧
    (1 < left → t.lct.assembler = .inside (words ++ [w]) (left - 1) ∧ t.lct.arrived = u.lct.arrived)

theorem assembleWord_assembled (w : Word) (u : State) : Assembled w u (assembleWord w u) := by
  have idle : isLead 0 = false := by decide
  unfold assembleWord
  cases at_ : u.lct.assembler with
  | outside =>
    dsimp only
    by_cases zero : w = 0
    · subst zero
      rw [if_pos rfl]
      exact ⟨rfl, fun _ => ⟨rfl, fun _ => ⟨at_, rfl⟩, fun lead => (nomatch idle.symm.trans lead), fun no => absurd rfl no⟩,
        fun _ _ no => (nomatch at_.symm.trans no)⟩
    · rw [if_neg zero]
      cases lead : isLead w with
      | true =>
        rw [if_pos rfl]
        exact ⟨rfl, fun _ => ⟨rfl, fun no => absurd no zero, fun _ => ⟨rfl, rfl⟩, fun _ no => (nomatch lead.symm.trans no)⟩,
          fun _ _ no => (nomatch at_.symm.trans no)⟩
      | false =>
        rw [if_neg Bool.false_ne_true]
        exact ⟨rfl, fun _ => ⟨rfl, fun no => absurd no zero, fun no => (nomatch lead.symm.trans no), fun _ _ => ⟨at_, rfl⟩⟩,
          fun _ _ no => (nomatch at_.symm.trans no)⟩
  | inside words left =>
    dsimp only
    by_cases last : left ≤ 1
    · rw [if_pos last]
      refine ⟨rfl, fun no => (nomatch at_.symm.trans no), fun words' left' same => ?_⟩
      obtain ⟨rfl, rfl⟩ := Assembler.inside.inj (at_.symm.trans same)
      exact ⟨rfl, fun _ => ⟨rfl, rfl⟩, fun more => absurd last (Nat.not_le.mpr more)⟩
    · rw [if_neg last]
      refine ⟨rfl, fun no => (nomatch at_.symm.trans no), fun words' left' same => ?_⟩
      obtain ⟨rfl, rfl⟩ := Assembler.inside.inj (at_.symm.trans same)
      exact ⟨rfl, fun few => absurd few last, fun _ => ⟨rfl, rfl⟩⟩

/-! #### A good frame -/

/-- The link record as a good frame leaves it before it is processed (R170). -/
def receivedLif (f : Frame) (l : Lif) : Lif :=
  { l with held := frameSamples l.inFormat f, expected := some (f.number + 1), misses := 0 }

/-- A good frame, before its lane word goes to the assembler (R170, R172). -/
def slippedState (f : Frame) (s : State) : State :=
  if slipped f s.lif then countSlip (setLif (receivedLif f) s) else setLif (receivedLif f) s

theorem receive_eq (f : Frame) (s : State) : receive f s = assembleWord f.lane (slippedState f s) := rfl

theorem slipped_iff (f : Frame) (l : Lif) : slipped f l = true ↔ ∃ n, l.expected = some n ∧ n ≠ f.number := by
  unfold slipped
  cases l.expected with
  | none => simp
  | some n => simp [ne_comm]

theorem slippedState_of_slip {f : Frame} {s : State} (slip : ∃ n, s.lif.expected = some n ∧ n ≠ f.number) :
    slippedState f s = countSlip (setLif (receivedLif f) s) := if_pos ((slipped_iff f s.lif).mpr slip)

theorem slippedState_of_none {f : Frame} {s : State} (none : ¬ ∃ n, s.lif.expected = some n ∧ n ≠ f.number) :
    slippedState f s = setLif (receivedLif f) s := if_neg fun yes => none ((slipped_iff f s.lif).mp yes)

/-- A good frame changes the line alone before it is processed. -/
theorem receive_lineOnly (f : Frame) (s : State) : receive f s = withLine (receivedLif f s.lif) (receive f s).lct s ∧
    LineOnly s (receivedLif f s.lif) (receive f s).lct := by
  obtain ⟨rest, -, -⟩ := assembleWord_assembled f.lane (slippedState f s)
  rw [receive_eq]
  generalize assembleWord f.lane (slippedState f s) = m at *
  by_cases slip : ∃ n, s.lif.expected = some n ∧ n ≠ f.number
  · rw [slippedState_of_slip slip] at rest
    exact ⟨by rw [rest]; rfl, rfl, by rw [rest]; rfl⟩
  · rw [slippedState_of_none slip] at rest
    exact ⟨by rw [rest]; rfl, rfl, by rw [rest]; rfl⟩

/-- A good frame (R170, R172, R176, R180, R182). -/
theorem receivedFrame_received (lane : Word) (f : Frame) (s : State) :
    Received lane f s (runFrame (f.number + 2) (frameSamples s.lif.inFormat f) lane (receive f s)) := by
  obtain ⟨whole, only⟩ := receive_lineOnly f s
  obtain ⟨sent, processed, lif, assembler, arrived, counters, link⟩ :=
    runFrame_sent (f.number + 2) (frameSamples s.lif.inFormat f) lane only
  rw [← whole] at sent processed lif assembler arrived counters link
  generalize runFrame (f.number + 2) (frameSamples s.lif.inFormat f) lane (receive f s) = t at *
  obtain ⟨rest, outside, inside⟩ := assembleWord_assembled f.lane (slippedState f s)
  rw [← receive_eq] at rest outside inside
  generalize receive f s = m at *
  unfold Received
  dsimp only
  rw [assembler, arrived, counters, link]
  by_cases slip : ∃ n, s.lif.expected = some n ∧ n ≠ f.number
  · rw [slippedState_of_slip slip] at rest outside
    refine ⟨sent, processed, lif, ?_, fun _ => ?_, fun no => absurd slip no, fun _ => outside rfl,
      fun _ _ _ no => absurd slip no⟩
    · rw [rest]; rfl
    · rw [rest]; exact ⟨rfl, rfl⟩
  · rw [slippedState_of_none slip] at rest outside inside
    refine ⟨sent, processed, lif, ?_, fun yes => absurd yes slip, fun _ => ?_,
      fun either => outside (either.resolve_right slip), fun words left at_ _ => inside words left at_⟩
    · rw [rest]; rfl
    · rw [rest]; exact ⟨rfl, rfl⟩

end Sys2Proof.Machine

namespace Sys2Proof.Machine

set_option Elab.async false

/-! ### The state a frame starts from -/

theorem lif_beforeFrame (s : State) : (beforeFrame s).lif = s.lif := congrArg LinkLane.lif (linkLane_beforeFrame s)

/-- The frame starts from what the rows before it leave (R73, R81, R102, R154). -/
theorem beforeFrame_frameStart (s : State) : FrameStart s (beforeFrame s) :=
  ⟨beforeFrame_rows s, beforeFrame_of_still s, lif_beforeFrame s, congrArg LinkLane.assembler (linkLane_beforeFrame s),
    congrArg LinkLane.arrived (linkLane_beforeFrame s)⟩

/-! ### Frames in LOCKED (R170 to R172) -/

/-- A good frame of LOCKED, on the state that its lane word and the rows before it leave. -/
theorem lockedFrame_good {f : Frame} (good : frameGood f = true) (v : State) :
    Received (laneOut v).1 f (beforeFrame (laneOut v).2) (lockedFrame f v) := by
  unfold lockedFrame
  dsimp only
  rw [if_pos good]
  exact receivedFrame_received _ f _

/-- A frame of LOCKED that fails its check. -/
theorem lockedFrame_bad {f : Frame} (bad : frameGood f = false) (v : State) :
    Concealed (laneOut v).1 (beforeFrame (laneOut v).2) (lockedFrame f v) ∧ (lockedFrame f v).lif.misses = 0 := by
  unfold lockedFrame
  dsimp only
  rw [if_neg (by rw [bad]; exact Bool.false_ne_true)]
  exact concealedFrame_concealed 0 _ _

/-- The first and the second missing sync. -/
theorem missedSync_concealed {s : State} (few : s.lif.misses < 2) :
    Concealed (laneOut (countPosition s)).1 (beforeFrame (laneOut (countPosition s)).2) (missedSync s) ∧
      (missedSync s).lif.misses = s.lif.misses + 1 := by
  have misses : (beforeFrame (laneOut (countPosition s)).2).lif.misses = s.lif.misses := by
    rw [lif_beforeFrame, (laneOut_sameButFormats (countPosition s)).lif]
    rfl
  unfold missedSync
  dsimp only
  rw [if_neg (Nat.not_le.mpr few), ← misses]
  exact concealedFrame_concealed _ _ _

/-- The third one enters HOLDOVER (R173). -/
theorem missedSync_third {s : State} (many : 2 ≤ s.lif.misses) : missedSync s = holdoverEntry s := by
  unfold missedSync
  rw [if_pos many]

/-- A frame on silence, on the state that its lane word and the rows before it leave (R174). -/
theorem silentFrame_silent (v : State) :
    Silent (laneOut v).1 (beforeFrame (laneOut v).2) (silentFrame v) := by
  unfold silentFrame
  exact runFrame_silent _ _

theorem arrived_of_quiet {s : State} (calm : quiet s = true) : s.lct.arrived = none := by
  have none : s.lct.arrived.isSome = false := not_due_of_quiet s calm .parcelComplete (by decide)
  simpa using none

/-- The frames of LOCKED. -/
theorem lockedFrames {s : State} (calm : quiet s = true) (locked : s.lif.state = .locked) :
    let v := countPosition s
    let u := (laneOut v).2
    SameButFormats v u ∧ u.lct.arrived = none ∧ ∃ w : State, FrameStart u w ∧
      (∀ f : Frame, frameGood f = true → ∃ t : State, exec (.frameReceived f) s = .next t ∧ Received (laneOut v).1 f w t) ∧
      (∀ f : Frame, frameGood f = false → ∃ t : State, exec (.frameReceived f) s = .next t ∧
        Concealed (laneOut v).1 w t ∧ t.lif.misses = 0) ∧
      (s.lif.misses < 2 → ∃ t : State, exec .missingSync s = .next t ∧ Concealed (laneOut v).1 w t ∧
        t.lif.misses = s.lif.misses + 1) := by
  intro v u
  have same : SameButFormats v u := laneOut_sameButFormats v
  have frame (f : Frame) : exec (.frameReceived f) s = .next (lockedFrame f v) :=
    congrArg Host.Outcome.next (inLink_of_quiet _ calm locked)
  have missing : exec .missingSync s = .next (missedSync s) := congrArg Host.Outcome.next (inLink_of_quiet _ calm locked)
  exact ⟨same, same.arrived.trans (arrived_of_quiet calm), beforeFrame u, beforeFrame_frameStart u,
    fun f good => ⟨_, frame f, lockedFrame_good good v⟩, fun f bad => ⟨_, frame f, lockedFrame_bad bad v⟩,
    fun few => ⟨_, missing, missedSync_concealed few⟩⟩

/-! ### The rows before a frame, on their own (R73, R81, R102, R154) -/

theorem attempt_switch {s : State} (frames : s.lif.state.processing = true) : attempt .switch s = switchIfDue s := by
  unfold attempt switchIfDue due
  rw [frames, Bool.true_and]
  rfl

theorem attempt_pendingStart (s : State) : attempt .pendingStart s = startIfDue s := rfl

theorem attempt_evaluation {s : State} (frames : s.lif.state.processing = true) :
    attempt .evaluation s = evaluateIfDue s := by
  unfold attempt evaluateIfDue due
  rw [frames, Bool.true_and]
  rfl

theorem attempt_tempoReset {s : State} (frames : s.lif.state.processing = true) :
    attempt .tempoReset s = resetIfDue s := by
  unfold attempt resetIfDue due
  rw [frames, Bool.true_and]
  rfl

/-- What comes before a frame, up to the evaluation. -/
def beforeReset (s : State) : State := evaluateIfDue (switchIfDue (startIfDue (switchIfDue s)))

theorem beforeReset_rows (s : State) : RowsBeforeReset s (beforeReset s) := by
  refine ⟨switchIfDue s, startIfDue (switchIfDue s), switchIfDue (startIfDue (switchIfDue s)), ?_, ?_, ?_, ?_, ?_, ?_, ?_, ?_⟩
  all_goals intro h
  · exact if_pos h
  · exact if_neg (by simp [h])
  · exact if_pos h
  · exact if_neg (by simp [h])
  · exact if_pos h
  · exact if_neg (by simp [h])
  · exact if_pos h
  · exact if_neg (by simp [h])

section
variable {s : State} (calm : quiet s = true) (frames : s.lif.state.processing = true)
include calm frames

/-- The rows that come before a frame take the steps that come before it. -/
theorem exec_governorEvaluation_rows : exec .governorEvaluation s = .next (beforeReset s) := by
  have first : (switchIfDue s).lif = s.lif := congrArg LinkLane.lif (linkLane_switchIfDue s)
  have second : (startIfDue (switchIfDue s)).lif = s.lif := (congrArg LinkLane.lif (linkLane_startIfDue _)).trans first
  have third : (switchIfDue (startIfDue (switchIfDue s))).lif = s.lif :=
    (congrArg LinkLane.lif (linkLane_switchIfDue _)).trans second
  show Host.Outcome.next (attempt .evaluation (switches s)) = _
  unfold switches
  rw [settle_of_quiet s calm, attempt_switch frames, attempt_pendingStart, attempt_switch (by rw [second]; exact frames),
    attempt_evaluation (by rw [third]; exact frames)]
  rfl

theorem exec_tempoResetTaken_rows : exec .tempoResetTaken s = .next (beforeFrame s) := by
  have evaluated := Host.Outcome.next.inj (exec_governorEvaluation_rows calm frames)
  have kept : (beforeReset s).lif = s.lif := by
    unfold beforeReset
    exact congrArg LinkLane.lif ((linkLane_evaluateIfDue _).trans ((linkLane_switchIfDue _).trans
      ((linkLane_startIfDue _).trans (linkLane_switchIfDue s))))
  show Host.Outcome.next (attempt .tempoReset (attempt .evaluation (switches s))) = _
  rw [evaluated, attempt_tempoReset (by rw [kept]; exact frames)]
  rfl

end

/-- Settles O58: a frame of LOCKED is `lockedFrame` or `missedSync` on the state that its lane word and the rows before it
leave; those keep the link record but for its slot formats; and the rows take the same steps on their own. -/
theorem lockedFramesAreProcessedOrConcealed : Obligations.LockedFramesAreProcessedOrConcealed := by
  refine ⟨fun s calm locked => ?_, fun s frames => ⟨fun calm due => ?_, fun calm => ⟨fun due => ?_, ?_, ?_⟩⟩⟩
  · obtain ⟨same, arrived, w, start, frames⟩ := lockedFrames calm locked
    exact ⟨same.lif, arrived, same.assembler, w, start, frames⟩
  · exact congrArg Host.Outcome.next (attempt_after_contexts calm due)
  · show Host.Outcome.next (attempt .switch (settle s)) = _
    rw [settle_of_quiet s calm, attempt_switch frames]
    exact congrArg Host.Outcome.next (if_pos due)
  · exact ⟨beforeReset s, beforeReset_rows s, exec_governorEvaluation_rows calm frames⟩
  · exact ⟨beforeFrame s, beforeFrame_rows s, exec_tempoResetTaken_rows calm frames⟩

/-! ### HOLDOVER (R173, R174) -/

/-- A change of link state where no notice is due: LINK joins the pending set and mailbox 7 is written (R179). -/
theorem changeLink_of_not_due {s : State} (none : noticeDue s = false) (f : Lif → Lif) : changeLink f s = { s with
    lif := f s.lif
    lct := { s.lct with
      notices := s.lct.notices ||| 0x01
      boxes := { s.lct.boxes with
        link := ⟨⟨(f s.lif).state, (f s.lif).rate, s.lct.counters.slips, s.lct.counters.frameChecks⟩, true⟩ } } } := by
  have still : noticeDue (setLif f s) = false := none
  unfold changeLink
  rw [raise_of_not_due _ _ still]
  rfl

/-- Settles O59: each frame of HOLDOVER is `silentFrame` after the change of its own, and the return is `lockedFrame` on
the state that the return leaves. -/
theorem holdoverRunsOnSilenceAndReturns : Obligations.HoldoverRunsOnSilenceAndReturns := by
  intro s calm told formats
  have noNotice := noticeDue_of_quiet calm
  refine ⟨?_, ?_, ?_⟩
  · intro v locked many
    have entered : changeLink Lif.toHoldover (abandon s) = v := changeLink_of_not_due (s := abandon s) noNotice _
    have entry : holdoverEntry s = silentFrame v := congrArg silentFrame entered
    refine ⟨(laneOut_sameButFormats v).lif, beforeFrame (laneOut v).2, beforeFrame_frameStart _, fun c mem => ?_⟩
    refine ⟨silentFrame v, ?_, silentFrame_silent v⟩
    rw [← entry]
    rcases List.mem_pair.mp mem with rfl | rfl
    · rw [← missedSync_third many]
      exact congrArg Host.Outcome.next (inLink_of_quiet _ calm locked)
    · exact congrArg Host.Outcome.next ((inLink_of_quiet _ calm locked).trans (if_pos many))
  · intro v holdover
    exact ⟨(laneOut_sameButFormats v).lif, beforeFrame (laneOut v).2, silentFrame v, beforeFrame_frameStart _,
      congrArg Host.Outcome.next (inLink_of_quiet _ calm holdover), silentFrame_silent v⟩
  · intro v holdover
    have returned : changeLink Lif.toLocked s = v := changeLink_of_not_due noNotice _
    refine ⟨(laneOut_sameButFormats v).lif, beforeFrame (laneOut v).2, beforeFrame_frameStart _, fun f => ?_⟩
    refine ⟨lockedFrame f v, ?_, fun good => lockedFrame_good good v, fun bad => lockedFrame_bad bad v⟩
    rw [← returned]
    exact congrArg Host.Outcome.next (inLink_of_quiet _ calm holdover)

end Sys2Proof.Machine

namespace Sys2Proof.Machine

set_option Elab.async false

/-! ### The range of the tempo period (R95) -/

theorem clampPeriod_bounds (hz n : Nat) : hz / 4 ≤ clampPeriod hz n ∧ clampPeriod hz n ≤ 2 * hz :=
  clampNat_bounds _ _ n (by omega)

/-- The elementary changes of a step keep the range: the period moves by a clamp to the range of the rate in force, and
the rate moves to another one only together with such a clamp (R95, R101). -/
theorem tempoOk_stepInvariant : StepInvariant TempoOk where
  core e h := by
    unfold TempoOk State.hz at h ⊢
    rw [e.rate, e.period]
    exact h
  ctxs _ _ h := h
  idle _ _ h := h
  cut _ _ h := h
  spill _ _ h := h
  load {s} f c h := by
    unfold loadChain
    dsimp only
    split
    · exact h
    · exact h
  mem _ _ h := h
  stack _ _ h := h
  taps _ _ h := h
  log _ _ h := h
  hold _ _ h := h
  queue _ _ h := h
  reply _ _ h := h
  period {s} n _ := clampPeriod_bounds s.hz n
  rate {s} r n h := by
    by_cases same : r.hz = s.hz
    · rw [if_pos same]
      show r.hz / 4 ≤ s.tfu.period ∧ s.tfu.period ≤ 2 * r.hz
      rw [same]
      exact h
    · rw [if_neg same]
      exact clampPeriod_bounds r.hz n
  powerOn _ := by
    obtain ⟨-, -, -, tempo, -⟩ := resetIsSafe
    exact tempo

/-- Settles O10: the range is kept by every elementary change of a step, so by every step. -/
theorem stepKeepsThePeriodInRange : Obligations.StepKeepsThePeriodInRange :=
  fun _ _ h e => tempoOk_stepInvariant.keeps_step (fun _ _ h => h) h e

/-! ### Set Tempo (R99) -/

/-- Settles O45: the parcel is unguarded with nothing before it, and its owning block applies the clamped period. -/
theorem setTempoAppliesTheClampedPeriod : Obligations.SetTempoAppliesTheClampedPeriod := by
  intro tag bpm s clear b period phase
  exact congrArg Host.Outcome.next (arrive_done (k := .setTempo) (body := [bpm]) clear rfl rfl _ rfl)

/-! ### The beat clock (R96, R97, R102) -/

/-- The boundaries of the sub-beat position rise with m, so the phase has reached the first m of them and no other. -/
theorem subPosition_eq {period phase m : Nat} (most : m ≤ 7) (reached : period * m / 8 ≤ phase)
    (next : m < 7 → phase < period * (m + 1) / 8) : subPosition period phase = m := by
  have boundary (k : Nat) (hk : k ∈ [1, 2, 3, 4, 5, 6, 7]) : decide (period * k / 8 ≤ phase) = decide (k ≤ m) := by
    refine decide_eq_decide.mpr ⟨fun h => ?_, fun h => ?_⟩
    · by_contra above
      have seven : k ≤ 7 := by simp at hk; omega
      have rises : period * (m + 1) / 8 ≤ period * k / 8 := Nat.div_le_div_right (Nat.mul_le_mul_left _ (by omega))
      exact absurd (next (by omega)) (by omega)
    · exact (Nat.div_le_div_right (Nat.mul_le_mul_left _ h)).trans reached
  unfold subPosition
  rw [List.filter_congr boundary]
  have count : ∀ j < 8, ([1, 2, 3, 4, 5, 6, 7].filter fun k => decide (k ≤ j)).length = j := by decide
  exact count m (by omega)

theorem takeTempoReset_at_start {s : State} (start : s.tfu.phase = 0) : takeTempoReset s =
    writeTempoBox { s with tfu := { s.tfu with group := 0, resetFlag := false } } := if_pos start

theorem takeTempoReset_within_beat {s : State} (within : s.tfu.phase ≠ 0) : takeTempoReset s =
    raise .beat (writeTempoBox { s with tfu := { s.tfu with
      phase := 0, group := 0, sub := 0, beats := s.tfu.beats + 1, resetFlag := false } }) := if_neg within

/-- Where neither a switch nor an evaluation comes before the frame, the row of the tempo reset takes the reset alone
(R102). -/
theorem exec_tempoResetTaken_alone {s : State} (calm : quiet s = true) (frames : s.lif.state.processing = true)
    (flag : s.tfu.resetFlag = true) (still : s.bgv.evaluate = false) (noSwitch : switchDue s = false) :
    exec .tempoResetTaken s = .next (takeTempoReset s) := by
  rw [exec_tempoResetTaken_rows calm frames]
  simp [beforeFrame, switchIfDue, startIfDue, evaluateIfDue, resetIfDue, noSwitch, pendingStart_of_quiet calm, still, flag]

/-- Settles O46: the flag is the parcel's, the reset its row's, and a beat and a subdivision are taken as they fall due. -/
theorem theBeatClockRunsAndResets : Obligations.TheBeatClockRunsAndResets := by
  refine ⟨fun tag s clear => ?_, fun s calm frames flag still noSwitch => ?_, fun s reached => ?_,
    fun s m before rose most reached next => ?_⟩
  · exact congrArg Host.Outcome.next (arrive_done (k := .tempoReset) (body := []) clear rfl rfl _ rfl)
  · rw [exec_tempoResetTaken_alone calm frames flag still noSwitch]
    exact ⟨fun within => by rw [takeTempoReset_within_beat within], fun start => by rw [takeTempoReset_at_start start]⟩
  · exact congrArg Host.Outcome.next (attempt_of_due .beat s (decide_eq_true reached))
  · have position := subPosition_eq most reached next
    have due : due .subdivision s = true := by
      show (s.tfu.phase < s.tfu.period && s.tfu.sub < subPosition s.tfu.period s.tfu.phase) = true
      rw [position, decide_eq_true before, decide_eq_true rose]
      rfl
    have taken : takeSubdivision s = writeTempoBox { s with tfu := { s.tfu with sub := m } } := by
      unfold takeSubdivision
      rw [position]
    exact congrArg Host.Outcome.next ((attempt_of_due _ s due).trans taken)

/-! ### Taps (R103 to R105) -/

theorem takeTap_first {s : State} (kind : classifyTap s = .first) : takeTap s = startTaps s := by
  unfold takeTap
  rw [kind]

theorem takeTap_restart {s : State} (kind : classifyTap s = .restart) : takeTap s = startTaps s := by
  unfold takeTap
  rw [kind]

theorem takeTap_ignored {s : State} (kind : classifyTap s = .ignored) : takeTap s = s := by
  unfold takeTap
  rw [kind]

theorem takeTap_applied {s : State} {p : Nat} (kind : classifyTap s = .applied) (previous : s.tfu.previousTap = some p) :
    takeTap s = applyPeriod .tap (meanInterval (joinInterval s.tfu.taps (s.tfu.frames - p)))
      { s with tfu := { s.tfu with
        taps := joinInterval s.tfu.taps (s.tfu.frames - p), previousTap := some s.tfu.frames } } := by
  unfold takeTap
  rw [kind, previous]
  rfl

/-! #### The table of R104 -/

theorem classifyTap_stopped {s : State} (stopped : s.lif.state.processing = false) : classifyTap s = .ignored := by
  unfold classifyTap
  rw [stopped]
  rfl

theorem classifyTap_first {s : State} (frames : s.lif.state.processing = true) (none : s.tfu.previousTap = none) :
    classifyTap s = .first := by
  unfold classifyTap
  rw [frames, none]
  rfl

theorem classifyTap_after {s : State} {p : Nat} (frames : s.lif.state.processing = true)
    (previous : s.tfu.previousTap = some p) : classifyTap s =
      if 2 * s.hz < s.tfu.frames - p then .restart else if s.tfu.frames - p < s.hz / 4 then .ignored else .applied := by
  unfold classifyTap
  rw [frames, previous]
  rfl

/-- The parcel classifies and takes the tap on the state with its permit consumed. -/
theorem exec_tap {tag : Word} {s : State} (clear : Clear .tap s) : exec (.tap tag []) s = .next (replied .tap tag .ok
    ([word (classifyTap s).code, word (takeTap (atBlock s)).tfu.taps.length] ++ twoWords (takeTap (atBlock s)).tfu.period)
    (setQueue s.lct.queue (takeTap (atBlock s)))) :=
  congrArg Host.Outcome.next (arrive_done (k := .tap) (body := []) clear rfl rfl _ rfl)

/-- What a tap answers and leaves, row by row of the table: a relation of its classification and the state after it holds
of the row's own (R104). -/
theorem takeTap_table {told : TapClass → State → Prop} (s : State) (taken : told (classifyTap s) (takeTap s)) :
    (s.lif.state.processing = false → told .ignored s) ∧
    (s.lif.state.processing = true → s.tfu.previousTap = none → told .first (startTaps s)) ∧
    ∀ p : Nat, s.lif.state.processing = true → s.tfu.previousTap = some p →
      (2 * s.hz < s.tfu.frames - p → told .restart (startTaps s)) ∧
      (s.tfu.frames - p ≤ 2 * s.hz → s.tfu.frames - p < s.hz / 4 → told .ignored s) ∧
      (s.tfu.frames - p ≤ 2 * s.hz → s.hz / 4 ≤ s.tfu.frames - p →
        let taps := joinInterval s.tfu.taps (s.tfu.frames - p)
        told .applied (applyPeriod .tap (meanInterval taps)
          { s with tfu := { s.tfu with taps := taps, previousTap := some s.tfu.frames } })) := by
  have row {kind : TapClass} {t : State} (is : classifyTap s = kind) (leaves : takeTap s = t) : told kind t :=
    leaves ▸ is ▸ taken
  refine ⟨fun stopped => ?_, fun frames none => ?_, fun p frames previous => ?_⟩
  · have kind := classifyTap_stopped stopped
    exact row kind (takeTap_ignored kind)
  · have kind := classifyTap_first frames none
    exact row kind (takeTap_first kind)
  · have kind := classifyTap_after frames previous
    refine ⟨fun long => ?_, fun short brief => ?_, fun short lasts => ?_⟩
    · rw [if_pos long] at kind
      exact row kind (takeTap_restart kind)
    · rw [if_neg (by omega), if_pos brief] at kind
      exact row kind (takeTap_ignored kind)
    · rw [if_neg (by omega), if_neg (by omega)] at kind
      exact row kind (takeTap_applied kind previous)

/-- Settles O47: the parcel answers the classification of the tap and what it leaves, which are those of its row. -/
theorem tapFollowsTheTable : Obligations.TapFollowsTheTable := by
  intro tag s clear u told fresh
  exact takeTap_table (atBlock s) (told := fun kind t => exec (.tap tag []) s = .next (replied .tap tag .ok
    ([word kind.code, word t.tfu.taps.length] ++ twoWords t.tfu.period) (setQueue s.lct.queue t))) (exec_tap clear)

end Sys2Proof.Machine

namespace Sys2Proof.Machine

set_option Elab.async false

/-! ### Footswitch lines and the log as parcels carry them (R110, R113, R201) -/

theorem eq_word_of_toNat {w : Word} {n : Nat} (h : w.toNat = n) : w = word n :=
  BitVec.eq_of_toNat_eq (by rw [h, word_toNat n (h ▸ w.isLt)])

theorem actionOf_toggle {kind parameter : Word} (code : 7 ≤ kind.toNat) : actionOf kind parameter =
    .stageToggle (clampFin 3 (highByte parameter).toNat) (clampFin 11 (lowByte parameter).toNat) := by
  unfold actionOf
  split
  case h_8 => rfl
  all_goals omega

theorem clampFin_lowByte (n : Nat) (w : Word) : (clampFin n (lowByte w).toNat).val = min n (w.toNat % 256) := by
  rw [clampFin_val, lowByte_toNat, Nat.min_comm]

theorem clampFin_highByte (n : Nat) (w : Word) : (clampFin n (highByte w).toNat).val = min n (w.toNat / 256) := by
  rw [clampFin_val, highByte_toNat, Nat.min_comm]

theorem actionWords_eq (a : Action) : actionWords a = match a with
    | .none => [0, Config.spareActionWord 0]
    | .select n => [1, word n.val]
    | .call n => [2, word n.val]
    | .ret => [3, Config.spareActionWord 3]
    | .tap => [4, Config.spareActionWord 4]
    | .tuner => [5, Config.spareActionWord 5]
    | .panic => [6, Config.spareActionWord 6]
    | .stageToggle c j => [7, word (256 * c.val + j.val)] := by
  cases a with
  | stageToggle c j => exact congrArg (fun n => [7, word (n + j.val)]) (Nat.mul_comm c.val 256)
  | _ => rfl

theorem effWriteFootswitchLine_eq (i : Fin 8) (rest : List Word) (s : State) :
    effWriteFootswitchLine (word i.val :: rest) s =
      okWith (lineRecordWords i (lineRecordOf (word i.val :: rest))) (writeLine i (lineRecordOf (word i.val :: rest)) s) := by
  have index : bodyNat (word i.val :: rest) 0 = i.val := word_toNat i.val (by omega)
  unfold effWriteFootswitchLine
  rw [index, withIndex_val]

/-- Settles O48: the line's record is that of the body, the log gives up its oldest entries, and the words are laid out
case by case. -/
theorem footswitchParcelsSetLinesAndDrainTheLog : Obligations.FootswitchParcelsSetLinesAndDrainTheLog := by
  refine ⟨fun tag i enabled high hold p1 p2 h1 h2 s clear adm => ?_, fun tag count s clear => ?_, fun e => ?_,
    fun kind parameter => ?_, Config.spareActionWord, fun i r => ?_⟩
  · let body : List Word := [word i.val, enabled, high, hold, p1, p2, h1, h2]
    refine ⟨lineRecordOf body, rfl, rfl, rfl, rfl, rfl, ?_⟩
    exact congrArg Host.Outcome.next (arrive_done_of_admitted (k := .writeFootswitchLine) (body := body) clear rfl adm
      (effWriteFootswitchLine_eq i _ _))
  · exact congrArg Host.Outcome.next (arrive_done (k := .readFootswitchLog) (body := [count]) clear rfl rfl _ rfl)
  · obtain ⟨line, event, time⟩ := e
    cases event <;> rfl
  · have coded {n : Nat} {a : Action} (h : kind.toNat = n) (is : actionOf (word n) parameter = a) :
        actionOf kind parameter = a := eq_word_of_toNat h ▸ is
    exact ⟨fun h => coded h rfl, fun h => ⟨_, clampFin_lowByte 127 _, coded h rfl⟩,
      fun h => ⟨_, clampFin_lowByte 127 _, coded h rfl⟩, fun h => coded h rfl, fun h => coded h rfl,
      fun h => coded h rfl, fun h => coded h rfl,
      fun h => ⟨_, _, clampFin_highByte 3 _, clampFin_lowByte 11 _, actionOf_toggle h⟩⟩
  · unfold lineRecordWords
    rw [actionWords_eq, actionWords_eq]
    rfl

end Sys2Proof.Machine

namespace Sys2Proof.Machine

set_option Elab.async false

/-! ### Measurements (R168, R169) -/

theorem hz_injective {q r : Rate} (h : q.hz = r.hz) : q = r := by
  cases q <;> cases r <;> revert h <;> decide

/-- The acceptance windows of two rates lie apart (Table 9-1). -/
theorem windows_apart {q r : Rate} (h : q.hz < r.hz) : 201 * q.hz < 199 * r.hz := by
  cases q <;> cases r <;> revert h <;> decide

theorem not_inWindow_of_slower {q r : Rate} {count : Nat} (within : inWindow r count = true) (slower : q.hz < r.hz) :
    inWindow q count = false := by
  refine Bool.eq_false_iff.mpr fun other => ?_
  obtain ⟨low, -⟩ := (inWindow_iff r count).mp within
  obtain ⟨-, high⟩ := (inWindow_iff q count).mp other
  have pos : 0 < count := Nat.pos_of_ne_zero fun zero => by rw [zero] at high; omega
  have := Nat.mul_lt_mul_of_pos_right (windows_apart slower) pos
  omega

theorem rate_of_windows {q r : Rate} {count : Nat} (hq : inWindow q count = true) (hr : inWindow r count = true) :
    q = r := by
  rcases Nat.lt_trichotomy q.hz r.hz with slower | same | faster
  · exact absurd hq (by rw [not_inWindow_of_slower hr slower]; exact Bool.false_ne_true)
  · exact hz_injective same
  · exact absurd hr (by rw [not_inWindow_of_slower hq faster]; exact Bool.false_ne_true)

/-- A count in a rate's window measures that rate (R169). -/
theorem rateOf_of_window {count : Nat} {r : Rate} (within : inWindow r count = true) : rateOf count = some r := by
  cases found : rateOf count with
  | none =>
    have every : r ∈ [Rate.r44100, .r48000, .r88200, .r96000] := by cases r <;> decide
    exact absurd within (List.find?_eq_none.mp found r every)
  | some q =>
    have other : inWindow q count = true := List.find?_some (p := fun q => inWindow q count) found
    rw [rate_of_windows other within]

theorem rateOf_none {count : Nat} (outside : ∀ r : Rate, inWindow r count = false) : rateOf count = none :=
  List.find?_eq_none.mpr fun r _ => by rw [outside r]; exact Bool.false_ne_true

/-! ### Locks (R101, R169) -/

/-- A lock at the rate last used leaves the period as it stands (R169). -/
theorem lockAt_same {r : Rate} {s : State} (same : r.hz = s.hz) (count : Nat) :
    lockAt r count s = changeLink (Lif.lock r count) s := if_pos same

/-- A lock at another rate rescales the period, and the evaluation that it causes waits for the next frame (R101, R154). -/
theorem lockAt_other {r : Rate} {s : State} (other : r.hz ≠ s.hz) (count : Nat) :
    lockAt r count s = markEvaluation (rescale s.hz (changeLink (Lif.lock r count) s)) := by
  have frames : (rescale s.hz (changeLink (Lif.lock r count) s)).lif.state.processing = true := by
    simp [rescale, forgetTaps, applyPeriod, Lif.lock, LinkState.processing]
  exact (if_neg other).trans (evaluationEvent_of_processing _ frames)

/-! ### Idle frames (R176) -/

theorem slotWord_zero (f : SlotFormat) : f.slotWord 0 = 0 := by cases f <;> rfl

theorem idleOut_eq (s : State) : idleOut s = { s with lif := { s.lif with
    outNumber := s.lif.outNumber + 1
    sent := some ⟨s.lif.outNumber + 1, Vector.replicate 8 0, 0,
      checkByte (s.lif.outNumber + 1) (Vector.replicate 8 0) 0⟩ } } := by
  have slots : (tab fun i : Fin 8 => s.lif.outFormat.slotWord silence[i]) = Vector.replicate 8 0 := by
    refine Vector.ext fun i h => ?_
    simp [silence, slotWord_zero]
  unfold idleOut sendFrame setLif
  rw [slots]
  rfl

/-- Settles O57: a quiet state settles to itself, a count is the rate's whose window holds it, and a lock is `lockAt`. -/
theorem measurementsLockOrAreUnsupported : Obligations.MeasurementsLockOrAreUnsupported := by
  intro s calm told
  have noNotice := noticeDue_of_quiet calm
  have linked (f : Lif → Lif) := changeLink_of_not_due noNotice f
  have measuredAt (measuring : s.lif.state = .measure) (count : Nat) :
      exec (.measurementComplete count) s = .next (measured count s) :=
    congrArg Host.Outcome.next (inLink_of_quiet _ calm measuring)
  refine ⟨fun search => ?_, fun measuring count outside => ?_, fun measuring count r low high => ?_, fun idle => ?_⟩
  · exact congrArg Host.Outcome.next ((inLink_of_quiet _ calm search).trans (linked _))
  · have none : rateOf count = none := rateOf_none fun r => Bool.eq_false_iff.mpr fun within => by
      obtain ⟨low, high⟩ := (inWindow_iff r count).mp within
      have rate : r.hz ∈ [44100, 48000, 88200, 96000] := by cases r <;> decide
      exact absurd (outside r.hz rate low) (Nat.not_lt.mpr high)
    rw [measuredAt measuring]
    unfold measured
    rw [none]
    rfl
  · have rate := rateOf_of_window ((inWindow_iff r count).mpr ⟨low, high⟩)
    have locks : measured count s = lockAt r count s := by unfold measured; rw [rate]
    refine ⟨lockAt r count s, (measuredAt measuring count).trans (congrArg _ locks), ?_⟩
    by_cases same : r.hz = s.hz
    · rw [lockAt_same same, linked]
      exact ⟨rfl, rfl, rfl, rfl, rfl, rfl, rfl, rfl, rfl, rfl, rfl, rfl, fun _ => ⟨rfl, rfl⟩, fun other => absurd same other⟩
    · rw [lockAt_other same, linked]
      exact ⟨rfl, rfl, rfl, rfl, rfl, rfl, rfl, rfl, rfl, rfl, rfl, rfl, fun is => absurd is same,
        fun _ => ⟨rfl, rfl, rfl, rfl, rfl, rfl, rfl, rfl, rfl, rfl, rfl⟩⟩
  · have stopped : s.lif.state.processing = false := by rcases idle with idle | idle <;> rw [idle] <;> rfl
    have sent : (if (settle s).lif.state.processing then settle s else idleOut (settle s)) = idleOut s := by
      rw [settle_of_quiet s calm, stopped]
      rfl
    exact congrArg Host.Outcome.next (sent.trans (idleOut_eq s))

end Sys2Proof.Machine

namespace Sys2Proof.Machine

set_option Elab.async false

/-! ### The actions of the lines (R111, Table 5-3) -/

theorem takeTap_tapped (s : State) : Tapped s (takeTap s) := takeTap_table s (told := fun _ t => takeTap s = t) rfl

/-- A change of the tuner's record is reported channel by channel, and TUNER set once (R128, R129). -/
theorem reportChannels_moved (tun : Tun) (s : State) : TunerMoved tun s (reportChannels s { s with tun := tun }) := by
  obtain ⟨v, reported, get⟩ := foldl_reportChannel s chains { s with tun := tun }
  have boxes (c : Fin 4) : v[c] = if channelDiffers s.tun tun c = true then Box.write (tunerRecord c { s with tun := tun })
      else s.lct.boxes.tuner[c] := by
    rw [get c]
    simp only [mem_chains, true_and]
  have whole : reportChannels s { s with tun := tun } =
      raiseIf (anyReadyChanged s { s with tun := tun }) .tuner (withTunerBoxes { s with tun := tun } v) := by
    unfold reportChannels
    rw [reported]
  refine ⟨withTunerBoxes { s with tun := tun } v, ⟨v, rfl, fun c => channelReported_of (boxes c)⟩, fun still => ?_,
    fun moved => ?_⟩
  · have no : anyReadyChanged s { s with tun := tun } = false :=
      Bool.eq_false_iff.mpr fun yes => ((anyReadyChanged_iff _ _).mp yes).elim fun c changed => changed (still c)
    rw [whole, no, raiseIf_false]
  · rw [whole, (anyReadyChanged_iff s { s with tun := tun }).mpr moved, raiseIf_true]

theorem follow_follows (engaged : Bool) (k : Channel) : Follows engaged k (k.follow engaged) := by
  unfold Channel.follow
  refine ⟨fun off => ?_, fun on state => ?_, fun on state => ?_⟩
  · rw [if_neg (by rw [off]; exact Bool.false_ne_true)]
  · rw [if_pos on, if_pos state]
  · rw [if_pos on, if_neg state]

theorem setEngaged_moved (engaged : Bool) (s : State) : EngageMoved engaged s (setEngaged engaged s) := by
  refine ⟨tab fun c => s.tun.channels[c].follow engaged, fun c => ?_, reportChannels_moved _ s⟩
  rw [show (tab fun c => s.tun.channels[c].follow engaged)[c] = s.tun.channels[c].follow engaged from tab_get _ _ _]
  exact follow_follows engaged _

theorem stageToggle_toggled (c : Fin 4) (i : Nat) (s : State) : Toggled c i s (stageToggle c i s) := by
  refine ⟨fun beyond => ?_, fun x st live at_ => ?_⟩
  · unfold stageToggle
    rw [bypassLive_of_absent (liveStage_beyond beyond)]
  · intro toggled u
    have same : modifyStage c x i (Stage.setBypass (!st.record.bypass)) s = u := by
      unfold modifyStage
      rw [modify_eq_of_getElem? _ i st _ (fun _ => toggled) at_ rfl]
    have event : stageToggle c i s = evaluationEvent u := by
      unfold stageToggle bypassLive
      rw [liveStage_some live at_, ← same]
    exact ⟨fun frames => event.trans (if_pos frames), fun stopped => event.trans (if_neg (by simp [u, stopped]))⟩

theorem fire_fires (a : Action) (s : State) : Fires a s (fire a s) := by
  cases a with
  | none | select _ | call _ | ret | panic => rfl
  | tap => exact takeTap_tapped s
  | tuner => exact setEngaged_moved _ s
  | stageToggle c i => exact stageToggle_toggled c i.val s

/-! ### Lines (R107 to R109, R112) -/

theorem appendLog_logged (i : Fin 8) (event : LogEvent) (s : State) : Logged i event s (appendLog i event s) :=
  ⟨fun room => if_pos room, fun full => if_neg (Nat.not_lt.mpr full)⟩

theorem debounce_eq (high : Bool) (l : Line) :
    (high = l.high → l.debounce high = { l with changes := 0 }) ∧
    (high ≠ l.high → l.changes < 4 → l.debounce high = { l with changes := l.changes + 1 }) ∧
    (high ≠ l.high → 4 ≤ l.changes → l.debounce high = { l with high := high, changes := 0 }) := by
  unfold Line.debounce
  refine ⟨fun same => if_pos same, fun other few => ?_, fun other many => ?_⟩
  · rw [if_neg other, if_neg (Nat.not_le.mpr few)]
  · rw [if_neg other, if_pos many]

theorem closed_iff (l : Line) : l.closed = true ↔ l.high = l.record.closedHigh := beq_iff_eq

theorem holdReached_iff (i : Fin 8) (s : State) : holdReached i s = true ↔ HoldTimeReached i s := by
  unfold holdReached
  rw [Bool.and_eq_true, decide_eq_true_eq, decide_eq_true_eq]
  rfl

section
variable {i : Fin 8} {s : State}

theorem lineStep_disabled (state : s.tfu.lines[i].state = .disabled) : lineStep i s = s := by
  unfold lineStep
  dsimp only
  rw [state]

theorem lineStep_opened (state : s.tfu.lines[i].state = .opened) :
    lineStep i s = if s.tfu.lines[i].closed then takePress i s else s := by
  unfold lineStep
  dsimp only
  rw [state]

theorem lineStep_timing (state : s.tfu.lines[i].state = .closedTiming) : lineStep i s =
    if s.tfu.lines[i].closed then putLine i { s.tfu.lines[i] with holdCount := s.tfu.lines[i].holdCount + 1 } s
    else takeRelease i s := by
  unfold lineStep
  dsimp only
  rw [state]

theorem lineStep_held (state : s.tfu.lines[i].state = .closedHeld) :
    lineStep i s = if s.tfu.lines[i].closed then s else takeRelease i s := by
  unfold lineStep
  dsimp only
  rw [state]

/-- A press defers its action where the line has a hold action, and fires it at once where it has none (R108). -/
theorem takePress_deferred (hold : s.tfu.lines[i].record.hold ≠ .none) : takePress i s =
    appendLog i .press (putLine i { s.tfu.lines[i] with state := .closedTiming, holdCount := 0, deferred := true } s) := by
  unfold takePress
  dsimp only
  rw [if_neg hold, decide_eq_true hold]

theorem takePress_fires (hold : s.tfu.lines[i].record.hold = .none) : takePress i s =
    fire s.tfu.lines[i].record.press (appendLog i .press
      (putLine i { s.tfu.lines[i] with state := .closedTiming, holdCount := 0, deferred := false } s)) := by
  unfold takePress
  dsimp only
  rw [if_pos hold, decide_eq_false (fun ne => ne hold)]

theorem takeRelease_eq : takeRelease i s =
    if s.tfu.lines[i].state = .closedTiming && s.tfu.lines[i].deferred then
      fire s.tfu.lines[i].record.press
        (appendLog i .release (putLine i { s.tfu.lines[i] with state := .opened, deferred := false } s))
    else appendLog i .release (putLine i { s.tfu.lines[i] with state := .opened, deferred := false } s) := rfl

end

/-- The transition of a line is that of its state and of its debounced level (R108, R109). -/
theorem lineStep_tick (i : Fin 8) (s : State) : LineTick i s (lineStep i s) := by
  unfold LineTick
  intro l closed moved
  have isClosed (h : closed) : s.tfu.lines[i].closed = true := (closed_iff _).mpr h
  have isOpen (h : ¬ closed) : ¬ s.tfu.lines[i].closed = true := fun yes => h ((closed_iff _).mp yes)
  refine ⟨lineStep_disabled, fun state up => ?_, fun state down => ⟨fun hold => ?_, fun hold => ?_⟩, fun state down => ?_,
    fun state up => ?_, fun state down => ?_, fun state up => ?_⟩
  · rw [lineStep_opened state, if_neg (isOpen up)]
  · rw [lineStep_opened state, if_pos (isClosed down), takePress_deferred hold]
    exact appendLog_logged i .press _
  · rw [lineStep_opened state, if_pos (isClosed down), takePress_fires hold]
    exact ⟨_, appendLog_logged i .press _, fire_fires _ _⟩
  · exact (lineStep_timing state).trans (if_pos (isClosed down))
  · rw [lineStep_timing state, if_neg (isOpen up), takeRelease_eq, decide_eq_true state, Bool.true_and]
    refine ⟨_, appendLog_logged i .release _, fun now => ?_, fun later => ?_⟩
    · exact if_neg (by rw [now]; exact Bool.false_ne_true)
    · rw [if_pos later]
      exact fire_fires _ _
  · rw [lineStep_held state, if_pos (isClosed down)]
  · have other : s.tfu.lines[i].state ≠ .closedTiming := fun timing => nomatch state.symm.trans timing
    rw [lineStep_held state, if_neg (isOpen up), takeRelease_eq, decide_eq_false other, Bool.false_and]
    exact appendLog_logged i .release _

/-! ### The lines of a tick (R108, R109) -/

/-- No line is left: the transitions of the tick have ended. -/
theorem linesTick_end (s : State) : LinesTick 8 s (setScan none s) :=
  ⟨fun _ => s, 8, rfl, le_refl 8, le_refl 8, fun k low => by omega, .inl ⟨rfl, fun k low => by omega, rfl⟩⟩

/-- The transitions wait at a line whose hold time is reached. -/
theorem linesTick_waits {i : Fin 8} {s t : State} (step : LineTick i s t) (reached : HoldTimeReached i t) :
    LinesTick i.val s (setScan (some i) t) := by
  have first : Function.update (fun _ => t) i.val s i.val = s := Function.update_self ..
  have second : Function.update (fun _ => t) i.val s (i.val + 1) = t := Function.update_of_ne (Nat.succ_ne_self _) ..
  refine ⟨Function.update (fun _ => t) i.val s, i.val + 1, first, Nat.le_succ _, i.isLt, fun k low high => ?_,
    .inr ⟨i, le_refl _, rfl, ?_⟩⟩
  · have same : k = i := Fin.ext (by omega)
    subst same
    rw [first, second]
    exact ⟨step, fun more => by omega⟩
  · rw [second]
    exact ⟨reached, rfl⟩

/-- A line whose hold time is not reached takes its transition, and the lines above it follow. -/
theorem linesTick_goesOn {i : Fin 8} {s u t : State} (step : LineTick i s u) (runs : ¬ HoldTimeReached i u)
    (rest : LinesTick (i.val + 1) u t) : LinesTick i.val s t := by
  obtain ⟨us, n, start, low, high, steps, ends⟩ := rest
  have first : Function.update us i.val s i.val = s := Function.update_self ..
  have above {k : Nat} (h : i.val < k) : Function.update us i.val s k = us k := Function.update_of_ne (by omega) ..
  refine ⟨Function.update us i.val s, n, first, by omega, high, fun k from_ before => ?_, ?_⟩
  · rw [above (k := k.val + 1) (by omega)]
    rcases Nat.eq_or_lt_of_le from_ with same | later
    · obtain rfl : i = k := Fin.ext same
      rw [first, start]
      exact ⟨step, fun _ => runs⟩
    · rw [above later]
      exact steps k later before
  · rcases ends with ⟨eight, last, is⟩ | ⟨k, from_, ends, reached, is⟩
    · rw [above (k := 8) (by omega)]
      refine .inl ⟨eight, fun k from_ seven => ?_, is⟩
      rcases Nat.eq_or_lt_of_le from_ with same | later
      · obtain rfl : i = k := Fin.ext same
        rw [show (8 : Nat) = i.val + 1 by omega, start]
        exact runs
      · exact last k later seven
    · rw [above (k := n) (by omega)]
      exact .inr ⟨k, by omega, ends, reached, is⟩

/-- The lines from line m up. -/
def linesFrom (m : Nat) : List (Fin 8) := allLines.drop m

theorem linesFrom_lt {m : Nat} (h : m < 8) : linesFrom m = ⟨m, h⟩ :: linesFrom (m + 1) := by
  interval_cases m <;> rfl

/-- The lines above a line are those from the next one up. -/
theorem filter_above (i : Fin 8) : (allLines.filter fun j => i < j) = linesFrom (i.val + 1) := by
  revert i
  decide

/-- The transitions of a tick, line by line up to the last or to the one whose hold falls due (R108, R109). -/
theorem scanLines_tick (m : Nat) (most : m ≤ 8) (s : State) : LinesTick m s (scanLines (linesFrom m) s) := by
  induction most using Nat.decreasingInduction generalizing s with
  | self => exact linesTick_end s
  | of_succ m below ih =>
    have step := lineStep_tick ⟨m, below⟩ s
    rw [linesFrom_lt below]
    unfold scanLines
    by_cases reached : holdReached ⟨m, below⟩ (lineStep ⟨m, below⟩ s) = true
    · rw [if_pos reached]
      exact linesTick_waits step ((holdReached_iff _ _).mp reached)
    · rw [if_neg reached]
      exact linesTick_goesOn step (fun h => reached ((holdReached_iff _ _).mpr h)) (ih _)

/-! ### The supply schedule at a tick (R163) -/

theorem join_eq (a : Option MeasureCause) (b : MeasureCause) : MeasureCause.join a b =
    ⟨b.periodic || a.any MeasureCause.periodic, b.requested || a.any MeasureCause.requested⟩ := by
  cases a with
  | none => simp [MeasureCause.join]
  | some c => simp [MeasureCause.join, Bool.or_comm]

theorem tick_eq (b : Bgv) : b.tick = { b with
    schedule := if b.periodicTick then 0 else b.schedule + 1
    request := false
    starting := if b.periodicTick || b.request
      then some ⟨b.periodicTick || b.starting.any MeasureCause.periodic, b.request || b.starting.any MeasureCause.requested⟩
      else b.starting } := by
  unfold Bgv.tick
  rw [join_eq]

/-- Settles O49: the tick debounces the lines and scans them all from line 0; HOLD takes the line that waits and scans the
lines above it. -/
theorem ticksDebounceLinesAndTakeTransitions : Obligations.TicksDebounceLinesAndTakeTransitions := by
  refine ⟨fun pins s calm => ?_, fun i s before waits reached => ?_⟩
  · refine ⟨tab fun j => s.tfu.lines[j].debounce (pins.getLsbD j.val), _, fun j => ?_, rfl, ?_⟩
    · rw [show (tab fun j => s.tfu.lines[j].debounce (pins.getLsbD j.val))[j] =
        s.tfu.lines[j].debounce (pins.getLsbD j.val) from tab_get _ _ _]
      exact debounce_eq _ _
    · rw [settle_of_quiet s calm]
      have ticked : supplyTick s = _ := congrArg (fun b => { s with bgv := b }) (tick_eq s.bgv)
      unfold footswitchTick
      rw [ticked]
      exact scanLines_tick 0 (Nat.zero_le 8) _
  · have due : due (.hold i) s = true := by
      show (decide (s.tfu.scan = some i) && holdReached i s) = true
      rw [decide_eq_true waits, (holdReached_iff i s).mpr reached]
      rfl
    refine ⟨_, _, takeHold i s, appendLog_logged i .hold _, fire_fires _ _,
      congrArg Host.Outcome.next (inTurn_of_due (.hold i) s before due), ?_⟩
    unfold takeHold
    rw [filter_above]
    exact scanLines_tick (i.val + 1) i.isLt _

end Sys2Proof.Machine

namespace Sys2Proof.Machine

set_option Elab.async false

/-! ### The tuner's parcels (R116, R117, R120) -/

theorem listenModeOf_eq (n : Nat) :
    listenModeOf n = if n = 0 then .off else if n = 1 then .always else .engaged := by
  match n with
  | 0 | 1 => rfl
  | n + 2 => rw [if_neg (by omega), if_neg (by omega)]; rfl

theorem flagAction_eq (n : Nat) (flag : Bool) :
    flagAction n flag = if n = 0 then false else if n = 1 then true else !flag := by
  match n with
  | 0 | 1 => rfl
  | n + 2 => rw [if_neg (by omega), if_neg (by omega)]; rfl

theorem effWriteTunerChannel_eq (c : Fin 4) (mode mute : Word) (s : State) :
    effWriteTunerChannel [word c.val, mode, mute] s =
      okWith [word c.val, word (listenModeOf mode.toNat).code, flagWord (mute.getLsbD 0)]
        (writeChannel c (listenModeOf mode.toNat) (mute.getLsbD 0) s) := by
  have index : bodyNat [word c.val, mode, mute] 0 = c.val := word_toNat c.val (by omega)
  unfold effWriteTunerChannel
  rw [index, withIndex_val]
  rfl

/-- What a parcel's owning block does to the tuner stands once the place of its reply is given back: with no notice due
before the parcel, TUNER joins at once on either side (R192, R193). -/
theorem tunerMoved_of_atBlock {tun : Tun} {s t : State} (still : noticeDue s = false)
    (moved : TunerMoved tun (atBlock s) t) : TunerMoved tun (consumePermit s) (setQueue s.lct.queue t) := by
  obtain ⟨u, ⟨boxes, eq, reported⟩, same, joins⟩ := moved
  have held : noticeDue u = false := noticeDue_of_queued u (by rw [eq]; simp [atBlock, consumePermit])
  have given : noticeDue (setQueue s.lct.queue u) = false := by rw [eq]; exact still
  refine ⟨setQueue s.lct.queue u, ⟨boxes, by rw [eq]; rfl, reported⟩, fun stays => by rw [same stays], fun changes => ?_⟩
  rw [joins changes, raise_of_not_due _ _ held, raise_of_not_due _ _ given]
  rfl

/-! ### Silence (R126, R128, R129) -/

/-- A channel's record replaced and reported writes no mailbox of another channel (R128). -/
theorem reportChannel_reported (c : Fin 4) (k : Channel) (s : State) :
    TunerReported { s.tun with channels := upd s.tun.channels c k } s (reportChannel s c (putChannel c k s)) := by
  obtain ⟨v, eq, get⟩ := foldl_reportChannel s [c] (putChannel c k s)
  refine ⟨v, eq, fun d => channelReported_of ?_⟩
  rw [show reportChannel s c (putChannel c k s) = withTunerBoxes (putChannel c k s) v from eq]
  refine (get d).trans ?_
  by_cases here : d = c
  · simp only [here, List.mem_singleton, true_and]
    rfl
  · have same : channelDiffers s.tun (putChannel c k s).tun d = false := by
      unfold channelDiffers Tun.mute putChannel
      dsimp only
      rw [upd_other _ _ here, decide_eq_true rfl, decide_eq_true rfl]
      rfl
    rw [if_neg fun h => here (List.mem_singleton.mp h.1)]
    exact (if_neg (Bool.eq_false_iff.mp same)).symm

theorem reportChannel_notices (old : State) (c : Fin 4) (s : State) :
    (reportChannel old c s).lct.notices = s.lct.notices := by
  unfold reportChannel
  split <;> rfl

theorem classPending_tuner (s : State) : classPending .tuner s = s.lct.notices.getLsbD 3 := by
  have bit : ∀ v : BitVec 8, decide (v &&& NoticeClass.tuner.bit ≠ 0) = v.getLsbD 3 := by decide
  exact bit s.lct.notices

theorem silenceDue_iff (c : Fin 4) (s : State) : silenceDue c s = true ↔
    measures s.tun.channels[c].mode s.tun.engaged = true ∧ s.tun.channels[c].measure.silence = 9600 ∧
      (s.tun.channels[c].state ≠ .noSignal ∨ s.tun.channels[c].measure.rising ≠ [] ∨
        s.tun.channels[c].measure.falling ≠ []) := by
  unfold silenceDue
  simp only [Bool.and_eq_true, Bool.or_eq_true, decide_eq_true_eq, and_assoc, or_assoc]

/-- A channel that leaves READY by silence sets TUNER where it is not pending yet (R129; log entry 41). -/
theorem takeSilence_eq (c : Fin 4) (s : State) : takeSilence c s =
    raiseIf (s.tun.channels[c].state = .ready && !s.lct.notices.getLsbD 3) .tuner
      (reportChannel s c (putChannel c s.tun.channels[c].quiet s)) := by
  unfold takeSilence raiseOnceIf
  rw [classPending_tuner, reportChannel_notices]
  rfl

/-- Settles O50: the owning block reports every channel it changes, and a silent channel reports itself alone. -/
theorem tunerParcelsSetRecordFlagAndReference : Obligations.TunerParcelsSetRecordFlagAndReference := by
  refine ⟨fun tag c mode mute s clear adm => ?_, fun tag action s clear => ?_, fun tag tenths s clear => ?_,
    fun c s => ?_⟩
  · let k : Channel := { s.tun.channels[c] with mode := listenModeOf mode.toNat, muteOnEngage := mute.getLsbD 0 }
    have sets := upd_self s.tun.channels c (k.follow s.tun.engaged)
    refine ⟨listenModeOf mode.toNat, upd s.tun.channels c (k.follow s.tun.engaged), _, listenModeOf_eq _,
      congrArg Host.Outcome.next (arrive_done_of_admitted clear rfl adm (effWriteTunerChannel_eq c mode mute _)), ?_,
      fun d ne => upd_other _ _ ne, tunerMoved_of_atBlock (noticeDue_of_quiet clear.1) (reportChannels_moved _ (atBlock s))⟩
    rw [sets]
    exact follow_follows s.tun.engaged k
  · have effect : effSetTunerEngage [action] (atBlock s) = okWith [flagWord (flagAction action.toNat s.tun.engaged)]
      (setEngaged (flagAction action.toNat s.tun.engaged) (atBlock s)) := rfl
    obtain ⟨channels, follow, moved⟩ := setEngaged_moved (flagAction action.toNat s.tun.engaged) (atBlock s)
    refine ⟨setQueue s.lct.queue (setEngaged (flagAction action.toNat s.tun.engaged) (atBlock s)), ?_⟩
    rw [← flagAction_eq]
    exact ⟨congrArg Host.Outcome.next (arrive_done clear rfl rfl _ effect),
      channels, follow, tunerMoved_of_atBlock (noticeDue_of_quiet clear.1) moved⟩
  · exact congrArg Host.Outcome.next (arrive_done (k := .setTunerReference) (body := [tenths]) clear rfl rfl _ rfl)
  · intro k on silent leaves quieted
    have taken : exec (.tunerSilence c) s = .next (raiseIf (k.state = .ready && !s.lct.notices.getLsbD 3) .tuner
        (reportChannel s c (putChannel c quieted s))) :=
      congrArg Host.Outcome.next ((attempt_of_due (.tunerSilence c) s ((silenceDue_iff c s).mpr ⟨on, silent, leaves⟩)).trans
        (takeSilence_eq c s))
    refine ⟨_, reportChannel_reported c quieted s, fun ready new => ?_, fun kept => ?_⟩
    · rw [taken, decide_eq_true ready, new]
      rfl
    · have stays : (decide (k.state = .ready) && !s.lct.notices.getLsbD 3) = false := by
        rcases kept with other | pends
        · rw [decide_eq_false other, Bool.false_and]
        · rw [pends, Bool.not_true, Bool.and_false]
      rw [taken, stays]
      rfl

end Sys2Proof.Machine

namespace Sys2Proof.Machine

set_option Elab.async false

/-! ### Crossings (R121 to R124, R126) -/

/-- The sample x crosses zero upwards from p against the armed rising flag (R122). -/
def Measure.Rose (m : Measure) (x p : Int) : Prop := m.previous = some p ∧ p < 0 ∧ 0 ≤ x ∧ m.armRising = true

/-- The sample x crosses zero downwards from p against the armed falling flag (R122). -/
def Measure.Fell (m : Measure) (x p : Int) : Prop := m.previous = some p ∧ 0 < p ∧ x ≤ 0 ∧ m.armFalling = true

section
variable {m : Measure} {x p : Int}

theorem risingCrossing_iff : risingCrossing m x = true ↔ ∃ p : Int, m.Rose x p := by
  unfold risingCrossing Measure.Rose
  cases m.previous <;> simp [and_assoc]

theorem fallingCrossing_iff : fallingCrossing m x = true ↔ ∃ p : Int, m.Fell x p := by
  unfold fallingCrossing Measure.Fell
  cases m.previous <;> simp [and_assoc]

/-- The previous sample lies on one side of zero, so no sample crosses both ways. -/
theorem Measure.Fell.not_rose (fell : m.Fell x p) (q : Int) : ¬ m.Rose x q := by
  rintro ⟨previous, below, -, -⟩
  obtain ⟨previous', above, -, -⟩ := fell
  obtain rfl : q = p := Option.some.inj (previous.symm.trans previous')
  omega

theorem risingCrossing_false (no : ∀ p : Int, ¬ m.Rose x p) : ¬ risingCrossing m x = true := fun yes =>
  (risingCrossing_iff.mp yes).elim no

theorem Measure.cross_of_rose (rose : m.Rose x p) :
    m.cross x = { m with rising := joinCrossing m.rising (risingTime m.index p x) } := by
  obtain ⟨previous, -⟩ := id rose
  unfold cross
  rw [previous]
  exact if_pos (risingCrossing_iff.mpr ⟨p, rose⟩)

theorem Measure.cross_of_fell (fell : m.Fell x p) :
    m.cross x = { m with falling := joinCrossing m.falling (fallingTime m.index p x) } := by
  obtain ⟨previous, -⟩ := id fell
  unfold cross
  rw [previous]
  exact (if_neg (risingCrossing_false fell.not_rose)).trans (if_pos (fallingCrossing_iff.mpr ⟨p, fell⟩))

theorem Measure.cross_of_none (noRise : ∀ p : Int, ¬ m.Rose x p) (noFall : ∀ p : Int, ¬ m.Fell x p) :
    m.cross x = m := by
  unfold cross
  cases m.previous with
  | none => rfl
  | some p =>
    exact (if_neg (risingCrossing_false noRise)).trans (if_neg fun yes => (fallingCrossing_iff.mp yes).elim noFall)

/-- A property of the histories after the crossing test holds when it does after a rise, after a fall and after
neither. -/
theorem Measure.cross_cases {P : Measure → Prop}
    (rise : ∀ p : Int, m.Rose x p → P { m with rising := joinCrossing m.rising (risingTime m.index p x) })
    (fall : ∀ p : Int, m.Fell x p → P { m with falling := joinCrossing m.falling (fallingTime m.index p x) })
    (none : P m) : P (m.cross x) := by
  by_cases rose : ∃ p : Int, m.Rose x p
  · obtain ⟨p, rose⟩ := rose
    exact cross_of_rose rose ▸ rise p rose
  · by_cases fell : ∃ p : Int, m.Fell x p
    · obtain ⟨p, fell⟩ := fell
      exact cross_of_fell fell ▸ fall p fell
    · exact (cross_of_none (not_exists.mp rose) (not_exists.mp fell)).symm ▸ none

theorem Measure.cross_rising_of_not_rose (no : ∀ p : Int, ¬ m.Rose x p) : (m.cross x).rising = m.rising :=
  cross_cases (P := fun n => n.rising = m.rising) (fun p rose => absurd rose (no p)) (fun _ _ => rfl) rfl

theorem Measure.cross_falling_of_not_fell (no : ∀ p : Int, ¬ m.Fell x p) : (m.cross x).falling = m.falling :=
  cross_cases (P := fun n => n.falling = m.falling) (fun _ _ => rfl) (fun p fell => absurd fell (no p)) rfl

theorem Measure.cross_armRising : (m.cross x).armRising = m.armRising :=
  cross_cases (P := fun n => n.armRising = m.armRising) (fun _ _ => rfl) (fun _ _ => rfl) rfl

theorem Measure.cross_armFalling : (m.cross x).armFalling = m.armFalling :=
  cross_cases (P := fun n => n.armFalling = m.armFalling) (fun _ _ => rfl) (fun _ _ => rfl) rfl

theorem joinCrossing_eq (history : List Int) (time : Int) :
    joinCrossing history time = (history ++ [time]).drop (history.length - 8) := by
  unfold joinCrossing
  dsimp only
  rw [List.length_append, List.length_singleton, Nat.add_sub_add_right history.length 1 8]

/-! ### One sample (R121, R124, R126) -/

/-- A crossing is counted at the sample x. -/
def crosses (m : Measure) (x : Int) : Bool := risingCrossing m x || fallingCrossing m x

theorem crosses_iff : crosses m x = true ↔ ∃ p : Int, m.Rose x p ∨ m.Fell x p := by
  unfold crosses
  rw [Bool.or_eq_true, risingCrossing_iff, fallingCrossing_iff, exists_or]

/-- The measurement state after a sample, before the window test. -/
def Measure.sampled (m : Measure) (x : Int) : Measure :=
  { (m.cross x).arm x (risingCrossing m x) (fallingCrossing m x) with
    silence := if crosses m x then 0 else m.silence + 1, previous := some x, index := m.index + 1 }

theorem Measure.sampled_armRising :
    (m.sampled x).armRising = true ↔ x < -83886 ∨ m.armRising = true ∧ ∀ p : Int, ¬ m.Rose x p := by
  have rose := @risingCrossing_iff m x
  show (decide (x < -armLevel) || ((m.cross x).armRising && !risingCrossing m x)) = true ↔ _
  rw [cross_armRising, Bool.or_eq_true, decide_eq_true_eq, Bool.and_eq_true, Bool.not_eq_true', ← Bool.not_eq_true, rose,
    not_exists]
  rfl

theorem Measure.sampled_armFalling :
    (m.sampled x).armFalling = true ↔ 83886 < x ∨ m.armFalling = true ∧ ∀ p : Int, ¬ m.Fell x p := by
  have fell := @fallingCrossing_iff m x
  show (decide (armLevel < x) || ((m.cross x).armFalling && !fallingCrossing m x)) = true ↔ _
  rw [cross_armFalling, Bool.or_eq_true, decide_eq_true_eq, Bool.and_eq_true, Bool.not_eq_true', ← Bool.not_eq_true, fell,
    not_exists]
  rfl

end

/-! ### Windows (R124, R125) -/

theorem span_of_full {history : List Int} (full : history.length = 9) :
    span history = history.getD 8 0 - history.getD 0 0 := by
  match history, full with
  | [_, _, _, _, _, _, _, _, _], _ => rfl

/-- A window passes the stability and range steps (R125). -/
def WindowGood (hz : Nat) (tr tf : Int) : Prop :=
  32 * |tr - tf| ≤ tr ∧ 20 * windowPeriod tr tf ≤ 256 * hz ∧ 256 * hz ≤ 1500 * windowPeriod tr tf

theorem windowGood_iff (hz : Nat) (tr tf : Int) :
    (stable tr tf && inRange hz (windowPeriod tr tf)) = true ↔ WindowGood hz tr tf := by
  unfold stable inRange WindowGood
  simp only [Bool.and_eq_true, decide_eq_true_eq]

theorem judge_of_good {hz : Nat} {tr tf : Int} (reference : Nat) (good : WindowGood hz tr tf) :
    judge hz reference tr tf = some (readingOf hz reference (windowPeriod tr tf)) :=
  if_pos ((windowGood_iff hz tr tf).mpr good)

theorem judge_of_bad {hz : Nat} {tr tf : Int} (reference : Nat) (bad : ¬ WindowGood hz tr tf) :
    judge hz reference tr tf = none := if_neg fun h => bad ((windowGood_iff hz tr tf).mp h)

/-- What a completed window with this judgement leaves of a channel (R124, R125). -/
def windowStep (k : Channel) (n : Measure) (judgement : Option Reading) : SampleStep :=
  let kept : Measure := { n with rising := n.rising.drop 8, falling := n.falling.drop 8 }
  match judgement with
  | some r => ⟨{ k with measure := kept, state := .ready, reading := r }, true⟩
  | none => ⟨{ k with measure := kept, state := .settling }, true⟩

section
variable {hz reference : Nat} {k : Channel} {x : Int}

/-- A sample completes a window: its crossing is counted and both histories are full (R124). -/
def Completes (m : Measure) (x : Int) : Prop :=
  (∃ p : Int, m.Rose x p ∨ m.Fell x p) ∧ (m.sampled x).rising.length = 9 ∧ (m.sampled x).falling.length = 9

/-- A crossing slides a full history before the other has filled, in READY (R124). -/
def Slides (k : Channel) (x : Int) : Prop :=
  k.state = .ready ∧ ((∃ p : Int, k.measure.Rose x p) ∧ k.measure.rising.length = 9 ∧ k.measure.falling.length < 9 ∨
    (∃ p : Int, k.measure.Fell x p) ∧ k.measure.falling.length = 9 ∧ k.measure.rising.length < 9)

theorem completes_iff (m : Measure) (x : Int) : (crosses m x && (m.sampled x).rising.length = 9 &&
    (m.sampled x).falling.length = 9) = true ↔ Completes m x := by
  unfold Completes
  rw [Bool.and_eq_true, Bool.and_eq_true, crosses_iff, decide_eq_true_eq, decide_eq_true_eq, and_assoc]

theorem slides_iff (k : Channel) (x : Int) : (slides k.measure (risingCrossing k.measure x)
    (fallingCrossing k.measure x) && k.state = .ready) = true ↔ Slides k x := by
  unfold slides Slides
  simp only [Bool.and_eq_true, Bool.or_eq_true, decide_eq_true_eq, risingCrossing_iff, fallingCrossing_iff, and_assoc]
  exact and_comm

theorem sampleStep_of_complete (complete : Completes k.measure x) : sampleStep hz reference k x =
    windowStep k (k.measure.sampled x)
      (judge hz reference (span (k.measure.sampled x).rising) (span (k.measure.sampled x).falling)) :=
  if_pos ((completes_iff _ _).mpr complete)

theorem sampleStep_of_slide (opened : ¬ Completes k.measure x) (slid : Slides k x) : sampleStep hz reference k x =
    ⟨{ k with measure := k.measure.sampled x, state := .settling }, false⟩ :=
  (if_neg fun h => opened ((completes_iff _ _).mp h)).trans (if_pos ((slides_iff _ _).mpr slid))

theorem sampleStep_of_stay (opened : ¬ Completes k.measure x) (stays : ¬ Slides k x) : sampleStep hz reference k x =
    ⟨{ k with measure := k.measure.sampled x }, false⟩ :=
  (if_neg fun h => opened ((completes_iff _ _).mp h)).trans (if_neg fun h => stays ((slides_iff _ _).mp h))

end

/-! ### Logarithms on integer powers (R127) -/

theorem greatest_spec {p : Int → Bool} (fuel : Nat) {low : Int} (starts : p low = true)
    (ends : p (low + fuel + 1) = false) : p (greatest p fuel low) = true ∧ p (greatest p fuel low + 1) = false ∧
      low ≤ greatest p fuel low ∧ greatest p fuel low ≤ low + fuel := by
  induction fuel generalizing low with
  | zero => exact ⟨starts, by simpa [greatest] using ends, le_refl _, by simp [greatest]⟩
  | succ fuel ih =>
    unfold greatest
    split
    next goesOn =>
      have ends' : p (low + 1 + fuel + 1) = false := by
        rw [show low + 1 + fuel = low + (fuel + 1 : Nat) by omega]
        exact ends
      obtain ⟨holds, fails, above, below⟩ := ih goesOn ends'
      exact ⟨holds, fails, by omega, by omega⟩
    next stops => exact ⟨starts, Bool.eq_false_iff.mpr stops, le_refl _, by omega⟩

section
variable {n d : Nat} {x y : Int}

/-- n ÷ d is at least 2^x, with x = j − i. -/
theorem powerAtLeast_iff {i j : Nat} (h : x + i = j) : powerAtLeast n d x = true ↔ d * 2 ^ j ≤ n * 2 ^ i := by
  unfold powerAtLeast
  split
  next up =>
    rw [decide_eq_true_eq, Nat.shiftLeft_eq, show j = x.toNat + i by omega, pow_add, ← mul_assoc]
    exact (Nat.mul_le_mul_right_iff (by positivity)).symm
  next down =>
    rw [decide_eq_true_eq, Nat.shiftLeft_eq, show i = (-x).toNat + j by omega, pow_add, ← mul_assoc]
    exact (Nat.mul_le_mul_right_iff (by positivity)).symm

/-- Two exponents are differences of natural numbers from one natural number. -/
theorem exists_common_exponent (x y : Int) : ∃ i j k : Nat, x + i = j ∧ y + i = k :=
  ⟨x.natAbs + y.natAbs, (x + (x.natAbs + y.natAbs : Nat)).toNat, (y + (x.natAbs + y.natAbs : Nat)).toNat, by omega, by omega⟩

theorem powerAtLeast_mono (le : y ≤ x) (h : powerAtLeast n d x = true) : powerAtLeast n d y = true := by
  obtain ⟨i, j, k, hx, hy⟩ := exists_common_exponent x y
  rw [powerAtLeast_iff hx] at h
  rw [powerAtLeast_iff hy]
  exact (Nat.mul_le_mul_left d (Nat.pow_le_pow_right (by omega) (by omega))).trans h

theorem powerAtLeast_pow_iff {e : Nat} (pos : e ≠ 0) :
    powerAtLeast (n ^ e) (d ^ e) (e * x) = true ↔ powerAtLeast n d x = true := by
  obtain ⟨i, j, -, h, -⟩ := exists_common_exponent x x
  have scaled : e * x + (i * e : Nat) = (j * e : Nat) := by push_cast; rw [← h]; ring
  rw [powerAtLeast_iff h, powerAtLeast_iff scaled, pow_mul, pow_mul, ← mul_pow, ← mul_pow]
  exact Nat.pow_le_pow_iff_left pos

/-- The same on a multiple of the exponent. -/
theorem powerAtLeast_scale_iff {e f g : Nat} (product : f = e * g) (pos : g ≠ 0) :
    powerAtLeast (n ^ f) (d ^ f) (g * x) = true ↔ powerAtLeast (n ^ e) (d ^ e) x = true := by
  rw [product, pow_mul, pow_mul]
  exact powerAtLeast_pow_iff pos

/-- n ÷ d is at least or at most 2^x. -/
theorem powerAtLeast_neg_of_not (h : powerAtLeast n d x = false) : powerAtLeast d n (-x) = true := by
  obtain ⟨i, j, -, hx, -⟩ := exists_common_exponent x x
  rw [← Bool.not_eq_true, powerAtLeast_iff hx] at h
  rw [powerAtLeast_iff (i := j) (j := i) (by omega)]
  exact Nat.le_of_not_le h

/-- n ÷ d is not at most 2^y when it is at least a higher power of 2. -/
theorem not_powerAtLeast_neg (pos : 0 < d) (lt : y < x) (h : powerAtLeast n d x = true) :
    powerAtLeast d n (-y) = false := by
  obtain ⟨i, j, k, hx, hy⟩ := exists_common_exponent x y
  rw [powerAtLeast_iff hx] at h
  rw [← Bool.not_eq_true, powerAtLeast_iff (i := k) (j := i) (by omega)]
  have rises : d * 2 ^ k < d * 2 ^ j := Nat.mul_lt_mul_of_pos_left (Nat.pow_lt_pow_right (by omega) (by omega)) pos
  omega

end

/-! ### Notes (R127) -/

/-- 12·log2(q) is at least n − 69 − 1/2: the note is n or a higher one (R127). -/
def noteReached (num den : Nat) (n : Int) : Bool := powerAtLeast (num ^ 24) (den ^ 24) (2 * (n - 69) - 1)

theorem noteOf_eq (num den : Nat) : noteOf num den = (greatest (noteReached num den) 128 0).toNat := rfl

/-- Between 2^−5 and 2^2 the search for the note starts below it and ends above it. -/
theorem noteOf_nearest {num den : Nat} (pos : 0 < den) (low : den ≤ num * 2 ^ 5) (high : num ≤ den * 2 ^ 2) :
    noteReached num den (noteOf num den) = true ∧ noteReached num den (noteOf num den + 1) = false := by
  have first : powerAtLeast num den (-5) = true := (powerAtLeast_iff (i := 5) (j := 0) rfl).mpr (by omega)
  have last : powerAtLeast num den 3 = false := Bool.eq_false_iff.mpr fun h => by
    have above := (powerAtLeast_iff (i := 0) (j := 3) rfl).mp h
    omega
  have starts : noteReached num den 0 = true :=
    powerAtLeast_mono (by decide) ((powerAtLeast_pow_iff (e := 24) (by decide)).mpr first)
  have ends : noteReached num den (0 + (128 : Nat) + 1) = false := Bool.eq_false_iff.mpr fun h =>
    Bool.eq_false_iff.mp last ((powerAtLeast_pow_iff (e := 24) (by decide)).mp (powerAtLeast_mono (by decide) h))
  obtain ⟨holds, fails, above, -⟩ := greatest_spec 128 starts ends
  rw [noteOf_eq, Int.toNat_of_nonneg above]
  exact ⟨holds, fails⟩

/-- The nearest note told on integer powers: 2^139 and 2^137 are half a note below it and above it. -/
theorem noteReached_told {num den note : Nat} (reached : noteReached num den note = true)
    (next : noteReached num den (note + 1) = false) :
    den ^ 24 * 2 ^ (2 * note) ≤ num ^ 24 * 2 ^ 139 ∧ num ^ 24 * 2 ^ 137 < den ^ 24 * 2 ^ (2 * note) :=
  ⟨(powerAtLeast_iff (by omega)).mp reached, Nat.lt_of_not_le fun h =>
    Bool.eq_false_iff.mp next ((powerAtLeast_iff (by omega)).mpr h)⟩

/-! ### Deviations (R127) -/

/-- With t = log2(n ÷ d) − offset, v is the integer nearest to t ÷ 2, of two as near the one further from zero, and at
most 500 from zero. -/
structure NearestAwayFromZero (n d : Nat) (offset v : Int) : Prop where
  low : -500 ≤ v
  high : v ≤ 500
  positive : 0 < v → powerAtLeast n d (offset + 2 * v - 1) = true ∧ powerAtLeast n d (offset + 2 * v + 1) = false
  zero : v = 0 → powerAtLeast d n (-(offset + 2 * v - 1)) = false ∧ powerAtLeast n d (offset + 2 * v + 1) = false
  negative : v < 0 →
    powerAtLeast d n (-(offset + 2 * v - 1)) = false ∧ powerAtLeast d n (-(offset + 2 * v + 1)) = true

theorem nearest_of_above {n d : Nat} {offset : Int} (pos : 0 < d) (above : powerAtLeast n d offset = true)
    (bound : powerAtLeast n d (offset + 1000) = false) :
    NearestAwayFromZero n d offset (greatest (fun k => powerAtLeast n d (offset + 2 * k - 1)) 500 0) := by
  obtain ⟨holds, fails, low, high⟩ := greatest_spec (p := fun k => powerAtLeast n d (offset + 2 * k - 1)) 500 (low := 0)
    (powerAtLeast_mono (by omega) above)
    (Bool.eq_false_iff.mpr fun h => Bool.eq_false_iff.mp bound (powerAtLeast_mono (by omega) h))
  generalize greatest (fun k => powerAtLeast n d (offset + 2 * k - 1)) 500 0 = v at *
  have next : powerAtLeast n d (offset + 2 * v + 1) = false := by rw [← fails]; congr 1; omega
  exact ⟨by omega, by omega, fun _ => ⟨holds, next⟩, fun _ => ⟨not_powerAtLeast_neg pos (by omega) above, next⟩,
    fun _ => by omega⟩

theorem nearest_of_below {n d : Nat} {offset : Int} (pos : 0 < d) (below : powerAtLeast n d offset = false)
    (bound : powerAtLeast n d (offset - 1000) = true) :
    NearestAwayFromZero n d offset (-(greatest (fun k => powerAtLeast d n (-offset + 2 * k - 1)) 500 0)) := by
  obtain ⟨holds, fails, low, high⟩ := greatest_spec (p := fun k => powerAtLeast d n (-offset + 2 * k - 1)) 500 (low := 0)
    (powerAtLeast_mono (by omega) (powerAtLeast_neg_of_not below))
    (by
      have far := not_powerAtLeast_neg (y := offset - 1001) pos (by omega) bound
      rw [← far]
      congr 1
      omega)
  generalize greatest (fun k => powerAtLeast d n (-offset + 2 * k - 1)) 500 0 = v at *
  have here : powerAtLeast d n (-(offset + 2 * -v + 1)) = true := by rw [← holds]; congr 1; omega
  have next : powerAtLeast d n (-(offset + 2 * -v - 1)) = false := by rw [← fails]; congr 1; omega
  have under : powerAtLeast n d (offset + 1) = false :=
    Bool.eq_false_iff.mpr fun h => Bool.eq_false_iff.mp below (powerAtLeast_mono (by omega) h)
  refine ⟨by omega, by omega, fun _ => by omega, fun none => ⟨next, ?_⟩, fun _ => ⟨next, here⟩⟩
  rw [none, mul_zero, add_zero]
  exact under

/-- A note is reached when 24,000·log2(q) is at least 2,000·(n − 69) − 1,000. -/
theorem noteReached_iff (num den : Nat) (n : Int) : noteReached num den n = true ↔
    powerAtLeast (num ^ 24000) (den ^ 24000) (2000 * (n - 69) - 1000) = true := by
  have scaled : 2000 * (n - 69) - 1000 = (1000 : Nat) * (2 * (n - 69) - 1) := by omega
  rw [scaled]
  exact (powerAtLeast_scale_iff (by decide) (by decide)).symm

/-- The deviation from the nearest note lies within the 500 steps of the search. -/
theorem deviationOf_nearest {num den note : Nat} (pos : 0 < den) (low : noteReached num den note = true)
    (high : noteReached num den (note + 1) = false) :
    NearestAwayFromZero (num ^ 24000) (den ^ 24000) (2000 * ((note : Int) - 69)) (deviationOf num den note) := by
  have bottom := (noteReached_iff num den note).mp low
  have top := Bool.eq_false_iff.mpr (mt (noteReached_iff num den (note + 1)).mpr (Bool.eq_false_iff.mp high))
  rw [show 2000 * ((note : Int) + 1 - 69) - 1000 = 2000 * ((note : Int) - 69) + 1000 by omega] at top
  unfold deviationOf
  dsimp only
  split
  next above => exact nearest_of_above (pow_pos pos _) above top
  next under => exact nearest_of_below (pow_pos pos _) (Bool.eq_false_iff.mpr under) bottom

/-- The nearest tenth of a cent told on integer powers: 2^139001 and 2^138999 are half a tenth below it and above it. -/
theorem NearestAwayFromZero.told {n d note : Nat} {v : Int} (near : NearestAwayFromZero n d (2000 * ((note : Int) - 69)) v) :
    let told := d * 2 ^ (2000 * note + (2 * (v + 500)).toNat)
    (0 < v → told ≤ n * 2 ^ 139001 ∧ n * 2 ^ 138999 < told) ∧
      (v = 0 → told < n * 2 ^ 139001 ∧ n * 2 ^ 138999 < told) ∧
      (v < 0 → told < n * 2 ^ 139001 ∧ n * 2 ^ 138999 ≤ told) := by
  obtain ⟨bottom, top, positive, zero, negative⟩ := near
  let j := 2000 * note + (2 * (v + 500)).toNat
  have atLeast : powerAtLeast n d (2000 * ((note : Int) - 69) + 2 * v - 1) = true ↔ d * 2 ^ j ≤ n * 2 ^ 139001 :=
    powerAtLeast_iff (by omega)
  have more : powerAtLeast d n (-(2000 * ((note : Int) - 69) + 2 * v - 1)) = false ↔ d * 2 ^ j < n * 2 ^ 139001 := by
    rw [← Bool.not_eq_true, powerAtLeast_iff (i := j) (j := 139001) (by omega), Nat.not_le]
  have less : powerAtLeast n d (2000 * ((note : Int) - 69) + 2 * v + 1) = false ↔ n * 2 ^ 138999 < d * 2 ^ j := by
    rw [← Bool.not_eq_true, powerAtLeast_iff (i := 138999) (j := j) (by omega), Nat.not_le]
  have atMost : powerAtLeast d n (-(2000 * ((note : Int) - 69) + 2 * v + 1)) = true ↔ n * 2 ^ 138999 ≤ d * 2 ^ j :=
    powerAtLeast_iff (by omega)
  rw [atLeast, less] at positive
  rw [more, less] at zero
  rw [more, atMost] at negative
  exact ⟨positive, zero, negative⟩

section
variable (hz period reference : Nat)

theorem readingOf_note :
    (readingOf hz reference period).note = noteOf (2560 * hz) (period * reference) := rfl

theorem readingOf_deviation : (readingOf hz reference period).deviation =
    deviationOf (2560 * hz) (period * reference) (readingOf hz reference period).note := by
  unfold readingOf pitchNum pitchDen
  rfl

variable {hz period reference}

/-- The ratio of a window in range lies between 2^−5 and 2^2, whatever the reference. -/
theorem pitch_bounds (runs : 0 < hz) (low : 20 * period ≤ 256 * hz) (high : 256 * hz ≤ 1500 * period)
    (least : 4150 ≤ reference) (most : reference ≤ 4660) : 0 < period * reference ∧
      period * reference ≤ 2560 * hz * 2 ^ 5 ∧ 2560 * hz ≤ period * reference * 2 ^ 2 := by
  have down : period * 4150 ≤ period * reference := Nat.mul_le_mul_left _ least
  have up : period * reference ≤ period * 4660 := Nat.mul_le_mul_left _ most
  omega

end

/-- Settles O51: the sample is judged case by case; the note and the deviation are where their searches end. -/
theorem readingsNameTheNearestNote : Obligations.ReadingsNameTheNearestNote := by
  refine ⟨fun hz reference k x => ?_, fun hz period reference runs low high least most => ?_⟩
  · intro m rose fell counted newest
    have time (history : List Int) (t : Int) : joinCrossing history t = newest history t := joinCrossing_eq history t
    refine ⟨m.sampled x, fun p is => ?_, Measure.cross_rising_of_not_rose, fun p is => ?_,
      Measure.cross_falling_of_not_fell, Measure.sampled_armRising, Measure.sampled_armFalling,
      fun yes => if_pos (crosses_iff.mpr yes), fun no => if_neg fun h => no (crosses_iff.mp h), rfl, rfl, ?_⟩
    · exact (congrArg Measure.rising (Measure.cross_of_rose is)).trans (time _ _)
    · exact (congrArg Measure.falling (Measure.cross_of_fell is)).trans (time _ _)
    · intro complete tr tf period good kept slid
      have judged (is : complete) : sampleStep hz reference k x =
          windowStep k (m.sampled x) (judge hz reference tr tf) := by
        obtain ⟨-, rising, falling⟩ := id is
        rw [sampleStep_of_complete is, span_of_full rising, span_of_full falling]
      refine ⟨fun is passes => ?_, fun is fails => ?_, fun opened => sampleStep_of_slide opened,
        fun opened => sampleStep_of_stay opened⟩
      · rw [judged is, judge_of_good reference passes]
        rfl
      · rw [judged is, judge_of_bad reference fails]
        rfl
  · obtain ⟨pos, atLeast, atMost⟩ := pitch_bounds runs low high least most
    obtain ⟨reached, next⟩ := noteOf_nearest pos atLeast atMost
    rw [← readingOf_note] at reached next
    have near := deviationOf_nearest pos reached next
    rw [← readingOf_deviation] at near
    obtain ⟨notBelow, notAbove⟩ := noteReached_told reached next
    obtain ⟨positive, zero, negative⟩ := near.told
    exact ⟨notBelow, notAbove, near.low, near.high, positive, zero, negative, rfl⟩

end Sys2Proof.Machine

namespace Sys2Proof.Machine

set_option Elab.async false

/-! ### What the show lock protects (R146 to R151)

The tables that only guarded parcels write, the lock with its permit, and what waits to execute: the running of the rig
(evaluations, changes of scene, live edits, the tuner, the lines, the supply and the link) keeps all of it. -/

/-- The tables that only guarded parcels write, the lock, and the parcels that wait to execute. -/
structure Vault where
  inputs : Vector ChainInput 4
  curves : Vector CurveSlot 16
  cabs : Vector CabSlot 8
  scenes : Vector (Option Scene) 128
  routes : Vector Route 8
  inFormat : SlotFormat
  outFormat : SlotFormat
  lines : Fin 8 → LineRecord
  channels : Fin 4 → ListenMode × Bool
  showLocked : Bool
  permit : Bool
  hold : List Parcel
  arrived : Option (List Word)

def State.vault (s : State) : Vault where
  inputs := s.chp.inputs
  curves := s.chp.curves
  cabs := s.chp.cabs
  scenes := s.scc.scenes
  routes := s.ort.routes
  inFormat := s.lif.inFormat
  outFormat := s.lif.outFormat
  lines i := s.tfu.lines[i].record
  channels c := (s.tun.channels[c].mode, s.tun.channels[c].muteOnEngage)
  showLocked := s.lct.showLocked
  permit := s.lct.permit
  hold := s.lct.hold
  arrived := s.lct.arrived

section
variable (s : State)

/-! #### Notices, evaluations and loads -/

theorem vault_noticeIfDue : (noticeIfDue s).vault = s.vault := by
  unfold noticeIfDue
  split <;> rfl

theorem vault_raise (k : NoticeClass) : (raise k s).vault = s.vault := vault_noticeIfDue s

theorem vault_raiseIf (p : Bool) (k : NoticeClass) : (raiseIf p k s).vault = s.vault := by
  cases p
  · rfl
  · exact vault_raise s k

/-- Steps taken in turn keep what each of them keeps. -/
theorem vault_foldl {α : Type} {f : State → α → State} (step : ∀ s a, (f s a).vault = s.vault) (l : List α) :
    (l.foldl f s).vault = s.vault :=
  List.foldlRecOn (motive := fun t => t.vault = s.vault) _ _ rfl fun t h a _ => (step t a).trans h

theorem vault_evaluated (e : Course) : (evaluated e s).vault = s.vault := rfl

theorem vault_evaluateMarks : (evaluateMarks s).vault = s.vault := by
  rw [evaluateMarks_eq]
  exact (vault_raiseIf _ _ _).trans (vault_evaluated s _)

theorem vault_loadChains (f : InFlight) : (loadChains f s).vault = s.vault := by
  refine vault_foldl s (fun t c => ?_) chains
  unfold loadChain
  dsimp only
  split <;> rfl

theorem vault_evaluateNow : (evaluateNow s).vault = s.vault := by
  have marks := vault_evaluateMarks s
  unfold evaluateNow
  dsimp only
  split
  · split
    · rename_i f _
      have loaded := (vault_loadChains (evaluateMarks s) f).trans marks
      split
      · exact loaded
      · split
        · exact loaded
        · exact (vault_evaluateMarks _).trans loaded
    · exact marks
  · exact marks

theorem vault_evaluationEvent : (evaluationEvent s).vault = s.vault := by
  unfold evaluationEvent
  split
  · rfl
  · exact vault_evaluateNow s

theorem vault_evaluationEventIf (p : Bool) : (evaluationEventIf p s).vault = s.vault := by
  cases p
  · rfl
  · exact vault_evaluationEvent s

theorem vault_loadStart (f : InFlight) : (loadStart f s).vault = s.vault :=
  (vault_evaluationEventIf _ _).trans (vault_loadChains s f)

theorem vault_takeLoadStart : (takeLoadStart s).vault = s.vault := by
  unfold takeLoadStart
  split
  · exact vault_loadStart s _
  · rfl

/-! #### Requests -/

theorem vault_endRequest (o : SceneOutcome) (r : Request) (n : Option (Fin 128)) :
    (endRequest o r n s).vault = s.vault := vault_raise _ _

theorem vault_cutsBeforeLoad (f : InFlight) : (cutsBeforeLoad f s).vault = s.vault := by
  refine (vault_foldl _ (fun t cx => ?_) _).trans (vault_foldl s (fun t c => ?_) _)
  · unfold cutForNeed
    split <;> rfl
  · unfold cutStandby
    split <;> rfl

theorem vault_beginChange (r : Request) (n : Fin 128) (scene : Scene) : (beginChange r n scene s).vault = s.vault := by
  have told (p : Bool) (f : InFlight) (m : State) (same : m.vault = s.vault) :
      (evaluationEventIf p (writeSceneBox (cutsBeforeLoad f m))).vault = s.vault :=
    (vault_evaluationEventIf _ _).trans ((vault_cutsBeforeLoad m f).trans same)
  unfold beginChange
  dsimp only
  split
  · exact (vault_loadStart _ _).trans (told _ _ _ rfl)
  · exact told _ _ _ rfl

theorem vault_startRequest (r : Request) : (startRequest r s).1.vault = s.vault := by
  unfold startRequest
  split
  · exact vault_endRequest s _ _ _
  · split
    · refine (vault_endRequest _ _ _ _).trans ?_
      cases r <;> rfl
    · split
      · exact vault_endRequest s _ _ _
      · exact vault_beginChange s _ _ _

theorem vault_takePendingStart : (takePendingStart s).vault = s.vault := by
  unfold takePendingStart
  split
  · exact vault_startRequest _ _
  · rfl

theorem vault_startIfDue : (startIfDue s).vault = s.vault := by
  unfold startIfDue
  split
  · exact vault_takePendingStart s
  · rfl

theorem vault_requestArrives (r : Request) : (requestArrives r s).1.vault = s.vault := by
  refine Eq.trans ?_ (vault_startIfDue s)
  unfold requestArrives receiveRequest
  split
  · exact vault_startRequest _ r
  · split
    · rfl
    · exact vault_endRequest _ _ _ _

/-! #### The switch, the fades and the tempo -/

theorem vault_switchChain (f : InFlight) (c : Fin 4) : (switchChain f s c).vault = s.vault := by
  rw [switchChain_eq]
  rfl

theorem vault_sceneTempo (scene : Scene) : (sceneTempo scene s).vault = s.vault := by
  unfold sceneTempo
  split <;> rfl

theorem vault_takeSwitch : (takeSwitch s).vault = s.vault := by
  unfold takeSwitch
  split
  · rename_i f _
    have moved : (sceneTempo f.copy (chains.foldl (switchChain f) s)).vault = s.vault :=
      (vault_sceneTempo _ _).trans (vault_foldl s (fun t c => vault_switchChain t f c) chains)
    unfold doSwitch
    refine (vault_evaluationEventIf _ _).trans ((vault_endRequest _ _ _ _).trans ?_)
    dsimp only
    split <;> exact moved
  · rfl

theorem vault_returnIfDone : (returnIfDone s).vault = s.vault := by
  unfold returnIfDone
  split <;> rfl

theorem vault_leaveFade (c : Fin 4) (x : Fin 2) : (leaveFade c x s).vault = s.vault := by
  unfold leaveFade
  split <;> rfl

theorem vault_takeFadeEnd (c : Fin 4) : (takeFadeEnd c s).vault = s.vault := by
  have left (out : Option (Fin 2)) : (endPart c out s).vault = s.vault := by
    cases out with
    | none => rfl
    | some x => exact (vault_evaluationEvent _).trans (vault_leaveFade s c x)
  exact (vault_returnIfDone _).trans (left _)

theorem vault_takeDipHalfway (c : Fin 4) : (takeDipHalfway c s).vault = s.vault := by
  unfold takeDipHalfway
  refine (vault_evaluationEvent _).trans ?_
  have left (out : Option (Fin 2)) : (setFade c { s.scc.fades[c] with halfTaken := true } (match out with
      | some x => leaveFade c x s
      | none => s)).vault = s.vault := by
    cases out with
    | none => rfl
    | some x => exact vault_leaveFade s c x
  exact left _

theorem vault_takeTempoReset : (takeTempoReset s).vault = s.vault := by
  unfold takeTempoReset
  split
  · rfl
  · exact vault_raise _ _

theorem vault_takeTap : (takeTap s).vault = s.vault := by
  unfold takeTap
  split <;> rfl

/-! #### Live edits -/

theorem vault_editLive (c : Fin 4) (i n : Nat) (v : Int) : ∀ p ∈ editLive c i n v s, p.1.vault = s.vault := by
  unfold editLive
  split
  · split
    · rintro p ⟨⟩
      exact vault_evaluationEvent _
    · rintro p ⟨⟩
  · rintro p ⟨⟩

theorem vault_bypassLive (c : Fin 4) (i : Nat) (f : Bool → Bool) :
    ∀ p ∈ bypassLive c i f s, p.1.vault = s.vault := by
  unfold bypassLive
  split
  · rintro p ⟨⟩
    exact vault_evaluationEvent _
  · rintro p ⟨⟩

theorem vault_stageToggle (c : Fin 4) (i : Nat) : (stageToggle c i s).vault = s.vault := by
  unfold stageToggle
  split
  · exact vault_bypassLive s c i _ _ ‹_›
  · rfl

/-! #### The tuner: a channel keeps its mode and its mute-on-engage flag -/

/-- The channels replaced, each by one with the same record (R115). -/
theorem vault_withTuner (channels : Vector Channel 4) (boxes : Vector (Box TunerRecord) 4)
    (kept : ∀ c : Fin 4, channels[c].mode = s.tun.channels[c].mode ∧
      channels[c].muteOnEngage = s.tun.channels[c].muteOnEngage) : (withTuner channels boxes s).vault = s.vault := by
  have same : (fun c : Fin 4 => (channels[c].mode, channels[c].muteOnEngage)) = s.vault.channels :=
    funext fun c => Prod.ext (kept c).1 (kept c).2
  exact congrArg (fun k => { s.vault with channels := k }) same

theorem vault_reportChannel (old : State) (c : Fin 4) : (reportChannel old c s).vault = s.vault := by
  unfold reportChannel
  split <;> rfl

theorem vault_reportChannels (old : State) : (reportChannels old s).vault = s.vault :=
  (vault_raiseIf _ _ _).trans (vault_foldl s (fun t c => vault_reportChannel t old c) chains)

theorem follow_record (k : Channel) (engaged : Bool) :
    (k.follow engaged).mode = k.mode ∧ (k.follow engaged).muteOnEngage = k.muteOnEngage := by
  unfold Channel.follow
  split
  · split <;> exact ⟨rfl, rfl⟩
  · exact ⟨rfl, rfl⟩

theorem sampleStep_record (hz reference : Nat) (k : Channel) (x : Int) :
    (sampleStep hz reference k x).channel.mode = k.mode ∧
      (sampleStep hz reference k x).channel.muteOnEngage = k.muteOnEngage := by
  refine ⟨?_, sampleStep_mute hz reference k x⟩
  unfold sampleStep
  dsimp only
  split
  · split <;> rfl
  · split <;> rfl

theorem vault_setEngaged (engaged : Bool) : (setEngaged engaged s).vault = s.vault := by
  refine (vault_reportChannels _ s).trans (vault_withTuner s _ s.lct.boxes.tuner fun c => ?_)
  rw [Fin.getElem_fin, tab_get]
  exact follow_record _ _

theorem vault_tunerFrame (inputs : Vector Int 4) : (tunerFrame inputs s).vault = s.vault := by
  rw [tunerFrame_eq]
  refine (vault_raiseIf _ _ _).trans (vault_withTuner s _ _ fun c => ?_)
  rw [Fin.getElem_fin, tab_get]
  unfold sampledChannel
  split
  · exact sampleStep_record _ _ _ _
  · exact ⟨rfl, rfl⟩

theorem vault_takeSilence (c : Fin 4) : (takeSilence c s).vault = s.vault := by
  refine (vault_raiseIf _ _ _).trans ((vault_reportChannel _ s c).trans
    (vault_withTuner s _ s.lct.boxes.tuner fun d => ?_))
  by_cases here : d = c
  · subst here
    rw [upd_self]
    exact ⟨rfl, rfl⟩
  · rw [upd_other _ _ here]
    exact ⟨rfl, rfl⟩

/-! #### The footswitches: a line keeps its record -/

/-- The lines replaced, each by one with the same record (R106). -/
theorem vault_withLines (lines : Vector Line 8) (kept : ∀ i : Fin 8, lines[i].record = s.tfu.lines[i].record) :
    { s with tfu := { s.tfu with lines := lines } : State }.vault = s.vault :=
  congrArg (fun l => { s.vault with lines := l }) (funext kept)

theorem vault_putLine (i : Fin 8) (l : Line) (kept : l.record = s.tfu.lines[i].record) :
    (putLine i l s).vault = s.vault := by
  refine vault_withLines s _ fun j => ?_
  rw [Fin.getElem_fin, upd_get]
  split
  · rename_i here
    rw [kept, Fin.ext here]
  · rfl

theorem vault_appendLog (i : Fin 8) (e : LogEvent) : (appendLog i e s).vault = s.vault := by
  unfold appendLog
  dsimp only
  split
  · exact vault_raise _ _
  · exact vault_raise _ _

theorem vault_fire (a : Action) : (fire a s).vault = s.vault := by
  cases a with
  | none => rfl
  | select n => exact vault_requestArrives s _
  | call n => exact vault_requestArrives s _
  | ret => exact vault_requestArrives s _
  | tap => exact vault_takeTap s
  | tuner => exact vault_setEngaged s _
  | panic => rfl
  | stageToggle c i => exact vault_stageToggle s c i.val

theorem vault_takePress (i : Fin 8) : (takePress i s).vault = s.vault := by
  have logged (l : Line) (kept : l.record = s.tfu.lines[i].record) :
      (appendLog i .press (putLine i l s)).vault = s.vault := (vault_appendLog _ _ _).trans (vault_putLine s i l kept)
  unfold takePress
  dsimp only
  split
  · exact (vault_fire _ _).trans (logged _ rfl)
  · exact logged _ rfl

theorem vault_takeRelease (i : Fin 8) : (takeRelease i s).vault = s.vault := by
  have logged (l : Line) (kept : l.record = s.tfu.lines[i].record) :
      (appendLog i .release (putLine i l s)).vault = s.vault := (vault_appendLog _ _ _).trans (vault_putLine s i l kept)
  unfold takeRelease
  dsimp only
  split
  · exact (vault_fire _ _).trans (logged _ rfl)
  · exact logged _ rfl

theorem vault_lineStep (i : Fin 8) : (lineStep i s).vault = s.vault := by
  unfold lineStep
  dsimp only
  split
  · rfl
  · split
    · exact vault_takePress s i
    · rfl
  · split
    · exact vault_putLine s i _ rfl
    · exact vault_takeRelease s i
  · split
    · rfl
    · exact vault_takeRelease s i

theorem vault_scanLines (lines : List (Fin 8)) : (scanLines lines s).vault = s.vault := by
  induction lines generalizing s with
  | nil => rfl
  | cons i rest ih =>
    unfold scanLines
    split
    · exact vault_lineStep s i
    · exact (ih _).trans (vault_lineStep s i)

theorem vault_takeHold (i : Fin 8) : (takeHold i s).vault = s.vault :=
  (vault_scanLines _ _).trans ((vault_fire _ _).trans ((vault_appendLog _ _ _).trans (vault_putLine s i _ rfl)))

theorem debounce_record (high : Bool) (l : Line) : (l.debounce high).record = l.record := by
  unfold Line.debounce
  split
  · rfl
  · split <;> rfl

theorem vault_footswitchTick (pins : BitVec 8) : (footswitchTick pins s).vault = s.vault := by
  refine (vault_scanLines _ _).trans (vault_withLines s _ fun i => ?_)
  rw [Fin.getElem_fin, tab_get]
  exact debounce_record _ _

/-! #### The supply guard -/

theorem vault_supplyTick : (supplyTick s).vault = s.vault := rfl

theorem vault_guardMoved : (guardMoved s).vault = s.vault := (vault_evaluationEvent _).trans (vault_raise s .supply)

theorem vault_takeReading (cause : MeasureCause) (c1 c2 : Nat) : (takeReading cause c1 c2 s).vault = s.vault := by
  unfold takeReading applyReading
  dsimp only
  split
  · split
    · exact vault_guardMoved _
    · rfl
  · split
    · split
      · rfl
      · exact vault_guardMoved _
    · rfl
  · rfl

theorem vault_forceOn : (forceOn s).vault = s.vault := by
  unfold forceOn
  split
  · exact vault_guardMoved _
  · rfl
  · rfl

theorem vault_forceOff : (forceOff s).vault = s.vault := by
  unfold forceOff
  split
  · split
    · split
      · rfl
      · exact vault_guardMoved _
    · exact vault_guardMoved _
  · rfl
  · rfl

/-! #### The link -/

theorem vault_changeLink (f : Lif → Lif) (inFormat : (f s.lif).inFormat = s.lif.inFormat)
    (outFormat : (f s.lif).outFormat = s.lif.outFormat) : (changeLink f s).vault = s.vault := by
  refine (vault_raise _ .link).trans ?_
  unfold State.vault setLif
  dsimp only
  rw [inFormat, outFormat]

/-- An entry to SEARCH keeps what the show lock protects: its responses empty contexts, owners and measurements (R175). -/
theorem vault_enterSearch : (enterSearch s).vault = s.vault := by
  obtain ⟨⟨lif, lct, -, -, -, -, -, -, -, -, -, -, -, -, -, scenes, tfu, -, routes, -, -, -, channels, -, chp, -⟩, -⟩ :=
    enterSearch_entered s
  have records : (enterSearch s).vault.channels = s.vault.channels := funext fun c => by
    obtain ⟨-, measuring, other⟩ := channels c
    show ((enterSearch s).tun.channels[c].mode, (enterSearch s).tun.channels[c].muteOnEngage) = _
    cases on : measures s.tun.channels[c].mode s.tun.engaged with
    | true => rw [measuring on]; rfl
    | false => rw [other on]; rfl
  generalize enterSearch s = t at *
  have same : t.vault = { s.vault with channels := t.vault.channels } := by
    unfold State.vault
    rw [lif, lct, chp, scenes, tfu, routes]
  rw [same, records]

theorem vault_loseLink : (loseLink s).vault = s.vault := vault_enterSearch _

theorem vault_measured (count : Nat) : (measured count s).vault = s.vault := by
  unfold measured
  split
  · rename_i r _
    have told := vault_changeLink s (Lif.lock r count) rfl rfl
    unfold lockAt
    dsimp only
    split
    · exact told
    · exact (vault_evaluationEvent _).trans told
  · rfl

theorem vault_watchRate (count : Nat) : (watchRate count s).vault = s.vault := by
  unfold watchRate
  split
  · split
    · rfl
    · exact vault_loseLink s
  · rfl

/-! #### The frame -/

theorem vault_beforeFrame : (beforeFrame s).vault = s.vault := by
  have switched (t : State) : (switchIfDue t).vault = t.vault := by
    unfold switchIfDue
    split
    · exact vault_takeSwitch t
    · rfl
  have evaluated (t : State) : (evaluateIfDue t).vault = t.vault := by
    unfold evaluateIfDue
    split
    · exact vault_evaluateNow t
    · rfl
  have reset (t : State) : (resetIfDue t).vault = t.vault := by
    unfold resetIfDue
    split
    · exact vault_takeTempoReset t
    · rfl
  calc (beforeFrame s).vault
      = (evaluateIfDue (switchIfDue (startIfDue (switchIfDue s)))).vault := reset _
    _ = (switchIfDue (startIfDue (switchIfDue s))).vault := evaluated _
    _ = (startIfDue (switchIfDue s)).vault := switched _
    _ = (switchIfDue s).vault := vault_startIfDue _
    _ = s.vault := switched s

theorem vault_processFrame (inbound : Vector Int 8) : (processFrame inbound s).vault = s.vault :=
  (vault_returnIfDone _).trans (vault_tunerFrame (chainsFrame inbound s) _)

theorem vault_runFrame (number : BitVec 8) (inbound : Vector Int 8) (lane : Word) :
    (runFrame number inbound lane s).vault = s.vault := vault_processFrame s inbound

theorem vault_concealedFrame (misses : Nat) (lane : Word) : (concealedFrame misses lane s).vault = s.vault :=
  vault_runFrame (conceal misses s) _ _ _

theorem vault_idleOut : (idleOut s).vault = s.vault := rfl

/-! #### The parcels that no guard holds back -/

theorem vault_withIndex (n a : Nat) (f : Fin n → Answer) (h : ∀ i, (f i).state.vault = s.vault) :
    (withIndex n a s f).state.vault = s.vault := by
  unfold withIndex
  split
  · exact h _
  · rfl

theorem vault_requestAnswer (r : Request) : (requestAnswer r s).state.vault = s.vault := by
  unfold requestAnswer
  dsimp only
  split <;> exact vault_requestArrives s r

theorem vault_setLiveParameter (body : List Word) : (effSetLiveParameter body s).state.vault = s.vault :=
  vault_withIndex s _ _ _ fun c => by
    split
    · exact vault_editLive s c _ _ _ _ ‹_›
    · rfl

theorem vault_setStageBypass (body : List Word) : (effSetStageBypass body s).state.vault = s.vault :=
  vault_withIndex s _ _ _ fun c => by
    split
    · exact vault_bypassLive s c _ _ _ ‹_›
    · rfl

/-- A run read from the store, which an index or a range check refuses. -/
theorem vault_readRun (n m a b : Nat) (p : Fin n → Fin m → Prop) [∀ i j, Decidable (p i j)]
    (data : Fin n → Fin m → List Word) :
    (withIndex n a s fun i => withIndex m b s fun j =>
      if p i j then refuse .range s else okWith (data i j) s).state.vault = s.vault :=
  vault_withIndex s _ _ _ fun i => vault_withIndex s _ _ _ fun j => by split <;> rfl

theorem vault_readScene (body : List Word) : (effReadScene body s).state.vault = s.vault :=
  vault_withIndex s _ _ _ fun n => vault_withIndex s _ _ _ fun c => vault_withIndex s _ _ _ fun first => by
    split <;> rfl

theorem vault_readMailboxes (body : List Word) : (effReadMailboxes body s).state.vault = s.vault :=
  vault_withIndex s _ _ _ fun first => by
    dsimp only [okWith]
    split <;> rfl

theorem vault_readCounters (body : List Word) : (effReadCounters body s).state.vault = s.vault := by
  unfold effReadCounters okWith
  dsimp only
  split <;> rfl

/-- A kind that is not guarded keeps what the show lock protects, unless it is of the lock itself. -/
theorem vault_kindEffect (k : Kind) (body : List Word) (free : kindGuarded k = false) (on : k ≠ .showLockOn)
    (permit : k ≠ .permit) : (kindEffect k body s).state.vault = s.vault := by
  cases k with
  | writeChainInput | writeCurvePoints | writeCabTaps | writeSceneHeader | writeSection | writeStages | eraseScene
  | writeFootswitchLine | writeTunerChannel | writeRoute | showLockOff | writeLinkFormat | restart => cases free
  | showLockOn => exact absurd rfl on
  | permit => exact absurd rfl permit
  | setLiveParameter => exact vault_setLiveParameter s body
  | setStageBypass => exact vault_setStageBypass s body
  | readCurvePoints => exact vault_readRun s _ _ _ _ _ _
  | readCabTaps => exact vault_readRun s _ _ _ _ _ _
  | readScene => exact vault_readScene s body
  | select => exact vault_withIndex s _ _ _ fun _ => vault_requestAnswer s _
  | call => exact vault_withIndex s _ _ _ fun _ => vault_requestAnswer s _
  | ret => exact vault_requestAnswer s _
  | tap => exact vault_takeTap s
  | setTunerEngage => exact vault_setEngaged s _
  | forceGuardOn => exact vault_forceOn s
  | forceGuardOff => exact vault_forceOff s
  | readMailboxes => exact vault_readMailboxes s body
  | readCounters => exact vault_readCounters s body
  | readPool | readContextStatus | setTempo | tempoReset | readFootswitchLog | setTunerReference | readRoutes | setPanic
  | supplyCheck | readNotices | writeNoticeMask | identify => rfl

end

/-! #### A locked part that holds no permit -/

/-- The show lock is on, no permit is held, and no parcel waits. -/
structure Shut (s : State) : Prop where
  locked : s.lct.showLocked = true
  permit : s.lct.permit = false
  hold : s.lct.hold = []
  arrived : s.lct.arrived = none

/-- The state t keeps of s the lock and what it protects; of the permit and the parcels that wait it says nothing. -/
def KeepsLock (s t : State) : Prop :=
  t.vault = { s.vault with permit := t.lct.permit, hold := t.lct.hold, arrived := t.lct.arrived }

theorem keepsLock_of_vault {s t : State} (h : t.vault = s.vault) : KeepsLock s t := by
  have permit : t.lct.permit = s.lct.permit := congrArg Vault.permit h
  have hold : t.lct.hold = s.lct.hold := congrArg Vault.hold h
  have arrived : t.lct.arrived = s.lct.arrived := congrArg Vault.arrived h
  unfold KeepsLock
  rw [h, permit, hold, arrived]
  rfl

theorem KeepsLock.trans {s t u : State} (h : KeepsLock s t) (g : KeepsLock t u) : KeepsLock s u := by
  unfold KeepsLock at *
  rw [g, h]

theorem KeepsLock.sameTables {s t : State} (h : KeepsLock s t) : SameTables s t := by
  have lines (i : Fin 8) : t.tfu.lines[i].record = s.tfu.lines[i].record := congrFun (congrArg Vault.lines h) i
  have channels (c : Fin 4) := congrFun (congrArg Vault.channels h) c
  exact ⟨congrArg Vault.inputs h, congrArg Vault.curves h, congrArg Vault.cabs h, congrArg Vault.scenes h,
    congrArg Vault.routes h, congrArg Vault.inFormat h, congrArg Vault.outFormat h, lines,
    fun c => ⟨congrArg Prod.fst (channels c), congrArg Prod.snd (channels c)⟩⟩

theorem KeepsLock.showLocked {s t : State} (h : KeepsLock s t) : t.lct.showLocked = s.lct.showLocked :=
  congrArg Vault.showLocked h

theorem Shut.of_vault {s t : State} (shut : Shut s) (h : t.vault = s.vault) : Shut t where
  locked := (congrArg Vault.showLocked h).trans shut.locked
  permit := (congrArg Vault.permit h).trans shut.permit
  hold := (congrArg Vault.hold h).trans shut.hold
  arrived := (congrArg Vault.arrived h).trans shut.arrived

section
variable {s : State}

/-- Whatever a parcel is, it executes without an effect on what the show lock protects: a guarded one is refused. -/
theorem parcelAnswer_keepsLock (p : Parcel) (locked : s.lct.showLocked = true) (none : s.lct.permit = false) :
    KeepsLock s (parcelAnswer p s).state := by
  unfold parcelAnswer
  split
  · exact rfl
  · rename_i k _
    split
    · exact rfl
    · split
      · exact rfl
      · rename_i admitted
        have free : kindGuarded k = false := by
          unfold guardRefuses at admitted
          rw [locked, none, Bool.and_true, Bool.not_false, Bool.and_true] at admitted
          exact Bool.eq_false_of_not_eq_true admitted
        by_cases on : k = .showLockOn
        · subst on
          show _ = _
          unfold State.vault
          dsimp only
          rw [locked]
          rfl
        · by_cases permit : k = .permit
          · subst permit
            exact rfl
          · exact KeepsLock.trans (t := consumePermit s) rfl
              (keepsLock_of_vault (vault_kindEffect _ k p.body free on permit))

theorem arriveParcel_keepsLock (p : Parcel) (shut : Shut s) : KeepsLock s (arriveParcel p s) := by
  unfold arriveParcel
  split
  · exact parcelAnswer_keepsLock (s := executing s) p shut.locked shut.permit
  · split
    · exact rfl
    · exact keepsLock_of_vault (vault_raise _ _)

theorem vault_laneOut (shut : Shut s) : (laneOut s).2.vault = s.vault := by
  have word (t : State) : (takeLaneWord t).2.vault = t.vault := by
    unfold takeLaneWord
    split <;> rfl
  have taken := (word (noticeIfDue s)).trans (vault_noticeIfDue s)
  rw [laneOut_of_no_hold s ((congrArg Vault.hold taken).trans shut.hold)]
  exact taken

theorem assembleWord_keepsLock (w : Word) : KeepsLock s (assembleWord w s) := by
  unfold assembleWord
  split
  · split
    · exact rfl
    · split
      · exact rfl
      · exact rfl
  · split
    · exact rfl
    · exact rfl

theorem receive_keepsLock (f : Frame) : KeepsLock s (receive f s) := by
  refine KeepsLock.trans ?_ (assembleWord_keepsLock f.lane)
  split <;> exact rfl

/-- The lane word of a frame leaves no held parcel to execute. -/
theorem vault_frameStart (shut : Shut s) : (beforeFrame (laneOut s).2).vault = s.vault :=
  (vault_beforeFrame _).trans (vault_laneOut shut)

theorem lockedFrame_keepsLock (f : Frame) (shut : Shut s) : KeepsLock s (lockedFrame f s) := by
  have before := vault_frameStart shut
  unfold lockedFrame
  dsimp only
  split
  · exact ((keepsLock_of_vault before).trans (receive_keepsLock f)).trans (keepsLock_of_vault (vault_runFrame _ _ _ _))
  · exact keepsLock_of_vault ((vault_concealedFrame _ _ _).trans before)

theorem vault_silentFrame (shut : Shut s) : (silentFrame s).vault = s.vault :=
  (vault_runFrame _ _ _ _).trans (vault_frameStart shut)

theorem vault_holdoverEntry (shut : Shut s) : (holdoverEntry s).vault = s.vault := by
  have told := vault_changeLink (abandon s) Lif.toHoldover rfl rfl
  exact (vault_silentFrame (shut.of_vault told)).trans told

theorem vault_missedSync (shut : Shut s) : (missedSync s).vault = s.vault := by
  unfold missedSync
  split
  · exact vault_holdoverEntry shut
  · exact (vault_concealedFrame _ _ _).trans (vault_frameStart (s := countPosition s) (shut.of_vault rfl))

/-! #### Events and commands -/

/-- An event other than the arrival of a parcel keeps what the show lock protects. -/
theorem vault_take (e : Event) (s : State) (other : e ≠ .parcelComplete) : (take e s).vault = s.vault := by
  cases e with
  | parcelComplete => exact absurd rfl other
  | tunerSilence c => exact vault_takeSilence s c
  | beat => exact vault_raise _ _
  | dipHalfway c => exact vault_takeDipHalfway s c
  | fadeEnd c => exact vault_takeFadeEnd s c
  | loadComplete c x => exact vault_evaluationEvent _
  | tailEnd c x => exact vault_evaluationEvent _
  | spillLimit c x => exact vault_evaluationEvent _
  | cutComplete c x => exact vault_evaluationEvent _
  | loadStart => exact vault_takeLoadStart s
  | pendingStart => exact vault_takePendingStart s
  | holdoverExpiry => exact vault_loseLink s
  | hold i => exact vault_takeHold s i
  | switch => exact vault_takeSwitch s
  | evaluation => exact vault_evaluateNow s
  | tempoReset => exact vault_takeTempoReset s
  | rampEnd _ | subdivision | measurementStart | notice => rfl

theorem vault_attempt (e : Event) (shut : Shut s) : (attempt e s).vault = s.vault := by
  unfold attempt
  split
  · rename_i falls
    refine vault_take e s fun is => ?_
    subst is
    rw [show due .parcelComplete s = s.lct.arrived.isSome from rfl, shut.arrived] at falls
    cases falls
  · rfl

theorem vault_attemptAll (events : List Event) (shut : Shut s) : (attemptAll events s).vault = s.vault :=
  List.foldlRecOn (motive := fun t : State => t.vault = s.vault) events _ rfl
    fun _ h e _ => (vault_attempt e (shut.of_vault h)).trans h

theorem vault_settle (shut : Shut s) : (settle s).vault = s.vault := vault_attemptAll _ shut

theorem vault_inTurn (e : Event) (shut : Shut s) : (inTurn e s).vault = s.vault := by
  have first := vault_attemptAll (settleOrder.takeWhile (· ≠ e)) shut
  exact (vault_attempt e (shut.of_vault first)).trans first

theorem vault_attempt_after {t : State} (e : Event) (shut : Shut s) (h : t.vault = s.vault) :
    (attempt e t).vault = s.vault := (vault_attempt e (shut.of_vault h)).trans h

theorem vault_switches (shut : Shut s) : (switches s).vault = s.vault :=
  vault_attempt_after _ shut (vault_attempt_after _ shut (vault_attempt_after _ shut (vault_settle shut)))

theorem arrival_keepsLock (p : Parcel) (shut : Shut s) : KeepsLock s (arriveParcel p (settle s)) := by
  have settled := vault_settle shut
  exact (keepsLock_of_vault settled).trans (arriveParcel_keepsLock p (shut.of_vault settled))

theorem inLink_keepsLock (state : LinkState) (f : State → State) (keep : ∀ {t : State}, Shut t → KeepsLock t (f t))
    (shut : Shut s) : KeepsLock s (inLink state f s) := by
  have settled := vault_settle shut
  unfold inLink
  split
  · exact (keepsLock_of_vault settled).trans (keep (shut.of_vault settled))
  · exact keepsLock_of_vault settled

theorem parcelComplete_keepsLock (shut : Shut s) :
    KeepsLock s (if goodParcelArrived s then inTurn .parcelComplete s else attempt .parcelComplete s) := by
  split
  · exact keepsLock_of_vault (vault_inTurn _ shut)
  · exact keepsLock_of_vault (vault_attempt _ shut)

end

/-- Every command but POWER_ON keeps the lock and what it protects. -/
theorem exec_keepsLock {i : Instr} {s : State} (on : i ≠ .powerOn) (shut : Shut s) :
    ∃ t, exec i s = .next t ∧ KeepsLock s t := by
  have settled := vault_settle shut
  cases i with
  | powerOn => exact absurd rfl on
  | writeChainInput _ _ | setLiveParameter _ _ | setStageBypass _ _ | writeCurvePoints _ _ | readCurvePoints _ _
  | writeCabTaps _ _ | readCabTaps _ _ | readPool _ _ | writeSceneHeader _ _ | writeSection _ _ | writeStages _ _
  | eraseScene _ _ | readScene _ _ | select _ _ | call _ _ | ret _ _ | readContextStatus _ _ | setTempo _ _
  | tempoReset _ _ | tap _ _ | writeFootswitchLine _ _ | readFootswitchLog _ _ | writeTunerChannel _ _
  | setTunerEngage _ _ | setTunerReference _ _ | writeRoute _ _ | readRoutes _ _ | setPanic _ _ | showLockOn _ _
  | showLockOff _ _ | permit _ _ | forceGuardOn _ _ | forceGuardOff _ _ | supplyCheck _ _ | writeLinkFormat _ _
  | readMailboxes _ _ | readNotices _ _ | writeNoticeMask _ _ | readCounters _ _ | identify _ _ | restart _ _
  | unknownKind _ _ _ => exact ⟨_, rfl, arrival_keepsLock _ shut⟩
  | parcelComplete => exact ⟨_, rfl, parcelComplete_keepsLock shut⟩
  | enterMeasure =>
    exact ⟨_, rfl, inLink_keepsLock _ _ (fun _ => keepsLock_of_vault (vault_changeLink _ _ rfl rfl)) shut⟩
  | measureSyncMissing => exact ⟨_, rfl, inLink_keepsLock _ _ (fun _ => keepsLock_of_vault (vault_enterSearch _)) shut⟩
  | measurementComplete count =>
    exact ⟨_, rfl, inLink_keepsLock _ _ (fun _ => keepsLock_of_vault (vault_measured _ count)) shut⟩
  | frameReceived f =>
    exact ⟨_, rfl, inLink_keepsLock _ _ (fun h => lockedFrame_keepsLock (s := countPosition _) f (h.of_vault rfl)) shut⟩
  | missingSync => exact ⟨_, rfl, inLink_keepsLock _ _ (fun h => keepsLock_of_vault (vault_missedSync h)) shut⟩
  | enterHoldover =>
    refine ⟨_, rfl, inLink_keepsLock _ _ (fun h => ?_) shut⟩
    split
    · exact keepsLock_of_vault (vault_holdoverEntry h)
    · exact rfl
  | holdoverPeriod =>
    exact ⟨_, rfl, inLink_keepsLock _ _
      (fun h => keepsLock_of_vault (vault_silentFrame (s := setLif _ _) (h.of_vault rfl))) shut⟩
  | holdoverReturn f =>
    refine ⟨_, rfl, inLink_keepsLock _ _ (fun {t} h => ?_) shut⟩
    have told := vault_changeLink t Lif.toLocked rfl rfl
    exact (keepsLock_of_vault told).trans (lockedFrame_keepsLock f (h.of_vault told))
  | holdoverExpiry | hold _ => exact ⟨_, rfl, keepsLock_of_vault (vault_inTurn _ shut)⟩
  | rateDeparture count =>
    exact ⟨_, rfl, inLink_keepsLock _ _ (fun _ => keepsLock_of_vault (vault_watchRate _ count)) shut⟩
  | idleFrame =>
    refine ⟨_, rfl, keepsLock_of_vault ?_⟩
    split
    · exact settled
    · exact (vault_idleOut _).trans settled
  | tempoResetTaken =>
    exact ⟨_, rfl, keepsLock_of_vault (vault_attempt_after _ shut (vault_attempt_after _ shut (vault_switches shut)))⟩
  | governorEvaluation => exact ⟨_, rfl, keepsLock_of_vault (vault_attempt_after _ shut (vault_switches shut))⟩
  | loadStart | pendingRequestStart =>
    exact ⟨_, rfl, keepsLock_of_vault (vault_attempt_after _ shut (vault_attemptAll _ shut))⟩
  | switch => exact ⟨_, rfl, keepsLock_of_vault (vault_attempt_after _ shut settled)⟩
  | notice | beat | subdivision | measurementStart => exact ⟨_, rfl, keepsLock_of_vault (vault_attempt _ shut)⟩
  | dipHalfway _ | fadeEnd _ | rampEnd _ | tunerSilence _ => exact ⟨_, rfl, keepsLock_of_vault (vault_attempt _ shut)⟩
  | loadComplete _ _ | tailEnd _ _ | spillLimit _ _ | cutComplete _ _ =>
    exact ⟨_, rfl, keepsLock_of_vault (vault_attempt _ shut)⟩
  | msTick pins => exact ⟨_, rfl, keepsLock_of_vault ((vault_footswitchTick _ pins).trans ((vault_supplyTick _).trans settled))⟩
  | supplyReading c1 c2 =>
    refine ⟨_, rfl, keepsLock_of_vault ?_⟩
    split
    · exact (vault_takeReading _ _ _ _).trans settled
    · exact settled

/-- Settles O26: every command keeps the lock and what it protects, as long as the lock is shut. -/
theorem showLockProtectsTheTables : Obligations.ShowLockProtectsTheTables := by
  intro c s on locked permit hold arrived
  obtain ⟨t, runs, kept⟩ := exec_keepsLock on ⟨locked, permit, hold, arrived⟩
  exact ⟨t, runs, kept.sameTables, kept.showLocked.trans locked⟩

end Sys2Proof.Machine

namespace Sys2Proof.Machine

set_option Elab.async false

/-! ### The common checks (R149, R150, R186) -/

/-- A good parcel of a kind reaches dispatch after the events that are due (R183). -/
theorem exec_ofParcel (k : Kind) (tag : Word) (body : List Word) (s : State) :
    exec (Instr.ofParcel (Kind.code k) tag body) s =
      .next (arriveParcel { kind := Kind.code k, tag := tag, body := body } (settle s)) := by
  cases k <;> rfl

theorem ofCode_of_unknown : ∀ kind : BitVec 6, unknownCode kind = true → Kind.ofCode kind = none := by decide

/-- A refused parcel consumes the permit alone (R149, R187). -/
theorem executeParcel_refused {p : Parcel} {s : State} {code : Code}
    (h : parcelAnswer p (executing s) = refuse code (consumePermit (executing s))) :
    executeParcel p s = enqueue (parcelWords p.kind p.tag [word code.value]) (consumePermit s) := by
  unfold executeParcel executed
  rw [h]
  rfl

theorem parcelAnswer_unknown {p : Parcel} (h : Kind.ofCode p.kind = none) (s : State) :
    parcelAnswer p s = refuse .badKind (consumePermit s) := by
  unfold parcelAnswer
  rw [h]

section
variable {k : Kind} {tag : Word} {body : List Word} {s : State}

theorem parcelAnswer_badLength (len : kindAccepts k body.length = false) :
    parcelAnswer { kind := Kind.code k, tag := tag, body := body } s = refuse .badLength (consumePermit s) := by
  unfold parcelAnswer
  rw [ofCode_code]
  dsimp only
  rw [len]
  rfl

theorem parcelAnswer_locked (len : kindAccepts k body.length = true) (guarded : kindGuarded k = true)
    (locked : s.lct.showLocked = true) (none : s.lct.permit = false) :
    parcelAnswer { kind := Kind.code k, tag := tag, body := body } s = refuse .locked (consumePermit s) := by
  have refuses : guardRefuses k s = true := by
    unfold guardRefuses
    rw [guarded, locked, none]
    rfl
  unfold parcelAnswer
  rw [ofCode_code]
  dsimp only
  rw [len, refuses]
  rfl

/-- A parcel that nothing waits before and that a common check refuses. -/
theorem arrive_refused_by_check {code : Code} (clear : Clear k s)
    (h : parcelAnswer { kind := Kind.code k, tag := tag, body := body } (executing s) =
      refuse code (consumePermit (executing s))) :
    arriveParcel { kind := Kind.code k, tag := tag, body := body } (settle s) =
      replied k tag code [] (consumePermit s) :=
  (arrive_of_clear k tag body s clear).trans (executeParcel_refused h)

theorem arrive_locked (clear : Clear k s) (len : kindAccepts k body.length = true) (guarded : kindGuarded k = true)
    (locked : s.lct.showLocked = true) (none : s.lct.permit = false) :
    arriveParcel { kind := Kind.code k, tag := tag, body := body } (settle s) =
      replied k tag .locked [] (consumePermit s) :=
  arrive_refused_by_check clear (parcelAnswer_locked len guarded locked none)

end

/-- Settles O15: each check refuses where those before it pass. -/
theorem commonChecksComeInTheirOrder : Obligations.CommonChecksComeInTheirOrder := by
  refine ⟨fun kind tag body s unknown calm hold room => ?_, fun k tag body s clear len => ?_,
    fun k tag body s clear len listed locked none => ?_⟩
  · have code := ofCode_of_unknown kind unknown
    have fits : hasRoom { kind := kind, tag := tag, body := body } s = true := by
      unfold hasRoom Parcel.largestReply
      rw [code]
      exact decide_eq_true room
    have runs : arriveParcel { kind := kind, tag := tag, body := body } s =
        executeParcel { kind := kind, tag := tag, body := body } s := if_pos (by rw [hold, fits]; rfl)
    have refused := executeParcel_refused (parcelAnswer_unknown (p := { kind := kind, tag := tag, body := body }) code
      (executing s))
    show Host.Outcome.next (arriveParcel _ (settle s)) = _
    rw [settle_of_quiet s calm, runs, refused]
    rfl
  · rw [exec_ofParcel, arrive_refused_by_check clear (parcelAnswer_badLength len)]
  · have guarded : kindGuarded k = true := by fin_cases listed <;> rfl
    rw [exec_ofParcel, arrive_locked clear len guarded locked none]

/-! ### The parcels of the show lock (R146 to R149) -/

/-- Settles O24: neither parcel is guarded, and the answer is the lock state. -/
theorem lockAndPermitParcels : Obligations.LockAndPermitParcels := fun tag _ =>
  ⟨fun clear => congrArg Host.Outcome.next (arrive_done (tag := tag) clear rfl rfl _ rfl),
    fun clear => congrArg Host.Outcome.next (arrive_done (tag := tag) clear rfl rfl _ rfl)⟩

theorem consumePermit_of_none {s : State} (none : s.lct.permit = false) : consumePermit s = s := by
  unfold consumePermit
  rw [← none]

/-- Settles O25: the parcel is guarded as others are, and unlocks where the guard admits it. -/
theorem showLockOffNeedsAPermitWhileLocked : Obligations.ShowLockOffNeedsAPermitWhileLocked := by
  refine fun tag s clear => ⟨fun opens => ?_, fun locked none => ?_⟩
  · have admitted : Admitted .showLockOff s := fun _ locked => opens.resolve_left (by rw [locked]; decide)
    exact congrArg Host.Outcome.next (arrive_done_of_admitted (tag := tag) clear rfl admitted rfl)
  · have refused := arrive_locked (tag := tag) clear (body := []) rfl rfl locked none
    rw [consumePermit_of_none none] at refused
    exact congrArg Host.Outcome.next refused

/-! ### Routes and panic (R133, R141) -/

theorem primaryOf_eq (w : Word) : (w.getLsbD 15 = true → primaryOf w = none) ∧
    (w.getLsbD 15 = false → ∃ p, primaryOf w = some p ∧ p.1.val = min 3 (lowByte w).toNat ∧
      p.2 = if w.getLsbD 8 then .right else .left) := by
  unfold primaryOf
  refine ⟨fun on => if_pos on, fun off => ⟨_, if_neg (by rw [off]; decide), Nat.min_comm _ _, rfl⟩⟩

theorem secondaryOf_eq (w : Word) : (w.getLsbD 15 = true → secondaryOf w = none) ∧
    (w.getLsbD 15 = false → ∃ n, secondaryOf w = some n ∧ n.val = min 7 (lowByte w).toNat) := by
  unfold secondaryOf
  refine ⟨fun on => if_pos on, fun off => ⟨_, if_neg (by rw [off]; decide), Nat.min_comm _ _⟩⟩

theorem effWriteRoute_eq (i : Fin 8) (rest : List Word) (s : State) : effWriteRoute (word i.val :: rest) s =
    okWith (word i.val :: routeWords (routeOf (word i.val :: rest)))
      { s with ort := { s.ort with routes := upd s.ort.routes i (routeOf (word i.val :: rest)) } } := by
  have index : bodyNat (word i.val :: rest) 0 = i.val := word_toNat i.val (by omega)
  unfold effWriteRoute
  rw [index, withIndex_val]

/-- Settles O52: the route record is that of the body, and the panic flag that of the action. -/
theorem routeAndPanicParcelsSetTheirRecords : Obligations.RouteAndPanicParcelsSetTheirRecords := by
  refine ⟨fun tag i primary secondary trim flags s clear adm => ?_, fun tag action s clear => ?_⟩
  · obtain ⟨primaryNone, primarySome⟩ := primaryOf_eq primary
    obtain ⟨secondaryNone, secondarySome⟩ := secondaryOf_eq secondary
    exact ⟨routeOf [word i.val, primary, secondary, trim, flags], primaryNone, primarySome, secondaryNone, secondarySome,
      rfl, rfl, rfl, congrArg Host.Outcome.next (arrive_done_of_admitted clear rfl adm (effWriteRoute_eq i _ _))⟩
  · intro panic
    have set := congrArg Host.Outcome.next (β := Result) (arrive_done (tag := tag) (body := [action]) clear rfl rfl _ rfl)
    have flag : flagAction (bodyNat [action] 0) s.ort.panic = panic := flagAction_eq action.toNat s.ort.panic
    rw [← flag]
    exact set

/-! ### Owners (R134 to R139, Table 7-2) -/

/-- The claimant below the chains of Table 7-2: the secondary, or silence. -/
def lowSource (r : Route) : Source :=
  match r.secondary with
  | some i => .direct i
  | none => .fill

section
variable {panic : Bool} {mute : Fin 4 → Bool} {outputs : Vector (Option (Int × Int)) 4} {r : Route}

theorem ownerOf_panic (on : panic = true) (takes : r.participating = true) :
    ownerOf panic mute outputs r = .panic r.secondary :=
  if_pos (by rw [on, takes]; rfl)

theorem not_panic_of (h : panic = false ∨ r.participating = false) : ¬ (panic && r.participating) = true := by
  rcases h with h | h <;> simp [h]

theorem ownerOf_unrouted (calm : panic = false ∨ r.participating = false) (none : r.primary = none) :
    ownerOf panic mute outputs r = lowSource r := by
  unfold ownerOf
  rw [if_neg (not_panic_of calm), none]
  rfl

theorem ownerOf_routed {p : Fin 4 × Side} (calm : panic = false ∨ r.participating = false) (some : r.primary = some p) :
    ownerOf panic mute outputs r = if mute p.1 && !r.exempt then .tuner p.1
      else if outputs[p.1].isSome then .chain p.1 p.2 else lowSource r := by
  unfold ownerOf
  rw [if_neg (not_panic_of calm), some]
  rfl

theorem not_muted_of {p : Fin 4 × Side} (h : mute p.1 = false ∨ r.exempt = true) : ¬ (mute p.1 && !r.exempt) = true := by
  rcases h with h | h <;> simp [h]

end

theorem decideOwner_owner (held : SlotOwner) (owner : Source) : (decideOwner held owner).owner = owner := by
  unfold decideOwner
  split
  · rename_i same
    exact same.symm
  · rfl

theorem advance_owner (o : SlotOwner) : o.advance.owner = o.owner := by
  unfold SlotOwner.advance
  split <;> rfl

theorem advance_outgoing (o : SlotOwner) : o.advance.outgoing = o.outgoing := by
  unfold SlotOwner.advance
  split <;> rfl

theorem advance_of_ramp {o : SlotOwner} {out : Source} (h : o.outgoing = some out) : o.advance.k = o.k + 1 := by
  unfold SlotOwner.advance
  rw [h]

theorem ramped_of_none {o : SlotOwner} (sample : Source → Int) (h : o.outgoing = none) :
    ramped sample o = sample o.owner := by
  unfold ramped
  rw [h]

theorem ramped_of_some {o : SlotOwner} {out : Source} (sample : Source → Int) (h : o.outgoing = some out) :
    ramped sample o = (sample out * (64 - o.k) + sample o.owner * o.k + 32) / 64 := by
  unfold ramped
  rw [h]
  rfl

/-- The first frame of a ramp gives the sample of the owner held before (R137). -/
theorem ramped_at_start (sample : Source → Int) (owner out : Source) : ramped sample ⟨owner, some out, 0⟩ = sample out := by
  obtain ⟨-, -, -, start, -⟩ := crossfade_spec 6 0 (sample out) (sample owner) (by omega) (by omega)
  exact start

section
variable (inbound : Vector Int 8) (s : State) (i : Fin 8)

/-- The owner and the ramp decided for a slot. -/
def decidedOwner : SlotOwner :=
  decideOwner s.ort.owners[i] (ownerOf s.ort.panic s.tun.mute s.chp.outputs s.ort.routes[i])

theorem decidedOwners_get : (decidedOwners s)[i] = decidedOwner s i := by
  unfold decidedOwners
  rw [Fin.getElem_fin, tab_get]
  rfl

theorem routerFrame_owner : (routerFrame inbound s).ort.owners[i] = (decidedOwner s i).advance := by
  rw [← decidedOwners_get]
  exact tab_get _ i.val i.isLt

theorem routerFrame_output : (routerFrame inbound s).lif.newer[i] =
    slotOutput s.ort.routes[i].trim (ramped (sourceSample inbound s.chp.outputs) (decidedOwner s i)) := by
  rw [← decidedOwners_get]
  exact tab_get _ i.val i.isLt

end

theorem exec_rampEnd {i : Fin 8} {s : State} (runs : s.ort.owners[i].outgoing ≠ none) (reached : 64 ≤ s.ort.owners[i].k) :
    exec (.rampEnd i) s = .next (takeRampEnd i s) :=
  exec_event (e := .rampEnd i) (Bool.and_eq_true_iff.mpr ⟨Option.isSome_iff_ne_none.mpr runs, decide_eq_true reached⟩)

/-- Settles O53: the claimants in their order, a slot's frame with and without a change of owner, and a ramp's end. -/
theorem ownersFollowThePrecedenceAndRamp : Obligations.OwnersFollowThePrecedenceAndRamp := by
  refine ⟨fun panic mute outputs r => ⟨ownerOf_panic, fun calm => ⟨ownerOf_unrouted calm, fun p some => ?_⟩⟩,
    fun inbound s i => ?_, fun i s runs reached => exec_rampEnd runs reached⟩
  · rw [ownerOf_routed calm some]
    refine ⟨fun muted barred => if_pos (by rw [muted, barred]; rfl), fun free out => ?_, fun free none => ?_⟩
    · rw [if_neg (not_muted_of free), if_pos (Option.isSome_iff_ne_none.mpr out)]
    · rw [if_neg (not_muted_of free), none]
      rfl
  · intro t held sample output
    have owner : t.ort.owners[i] = (decidedOwner s i).advance := routerFrame_owner inbound s i
    have out : t.lif.newer[i] = output (ramped sample (decidedOwner s i)) := routerFrame_output inbound s i
    have first : (decidedOwner s i).owner = ownerOf s.ort.panic s.tun.mute s.chp.outputs s.ort.routes[i] :=
      decideOwner_owner _ _
    rw [owner, out, advance_owner, advance_outgoing]
    refine ⟨first, fun same => ?_, fun moved => ?_⟩
    · have stays : decidedOwner s i = held := if_pos (first.symm.trans same)
      rw [stays]
      refine ⟨rfl, fun none => by rw [ramped_of_none sample none], fun outgoing some => ⟨advance_of_ramp some, ?_⟩⟩
      rw [ramped_of_some sample some]
    · have ramps : decidedOwner s i = ⟨_, some held.owner, 0⟩ := if_neg fun e => moved (first.trans e)
      rw [ramps, ramped_at_start]
      exact ⟨rfl, rfl, rfl⟩

end Sys2Proof.Machine

namespace Sys2Proof.Machine

set_option Elab.async false

/-! ### The mailboxes by their numbers (Table 10-2) -/

/-- The mailbox of a tuner channel. -/
def tunerBox (c : Fin 4) : Fin 17 := ⟨c.val, by omega⟩

/-- The mailbox of a slot's meter. -/
def meterBox (j : Fin 8) : Fin 17 := ⟨9 + j.val, by omega⟩

theorem mailbox_cases {P : Fin 17 → Prop} (tuner : ∀ c, P (tunerBox c)) (tempo : P 4) (governor : P 5) (scene : P 6)
    (link : P 7) (supply : P 8) (meter : ∀ j, P (meterBox j)) (i : Fin 17) : P i := by
  obtain ⟨n, h⟩ := i
  by_cases low : n < 4
  · exact tuner ⟨n, low⟩
  · by_cases high : 9 ≤ n
    · have is : meterBox ⟨n - 9, by omega⟩ = ⟨n, h⟩ := Fin.ext (show 9 + (n - 9) = n by omega)
      rw [← is]
      exact meter _
    · obtain rfl | rfl | rfl | rfl | rfl : n = 4 ∨ n = 5 ∨ n = 6 ∨ n = 7 ∨ n = 8 := by omega
      · exact tempo
      · exact governor
      · exact scene
      · exact link
      · exact supply

section
variable (b : Mailboxes)

theorem words_tuner (c : Fin 4) : b.words (tunerBox c) = b.tuner[c].record.words := by
  unfold Mailboxes.words
  exact dif_pos c.isLt

theorem fresh_tuner (c : Fin 4) : b.fresh (tunerBox c) = b.tuner[c].fresh := by
  unfold Mailboxes.fresh
  exact dif_pos c.isLt

theorem words_meter (j : Fin 8) : b.words (meterBox j) = twoWords b.meters[j].record := by
  have out (m : Nat) (low : m < 9) : ¬ 9 + j.val = m := by omega
  unfold Mailboxes.words meterBox
  dsimp only
  rw [dif_neg (by omega), if_neg (out 4 (by omega)), if_neg (out 5 (by omega)), if_neg (out 6 (by omega)),
    if_neg (out 7 (by omega)), if_neg (out 8 (by omega)), dif_pos (by omega)]
  simp

theorem fresh_meter (j : Fin 8) : b.fresh (meterBox j) = b.meters[j].fresh := by
  have out (m : Nat) (low : m < 9) : ¬ 9 + j.val = m := by omega
  unfold Mailboxes.fresh meterBox
  dsimp only
  rw [dif_neg (by omega), if_neg (out 4 (by omega)), if_neg (out 5 (by omega)), if_neg (out 6 (by omega)),
    if_neg (out 7 (by omega)), if_neg (out 8 (by omega)), dif_pos (by omega)]
  simp

/-! ### The layouts of the records (R203, Table 11-7) -/

theorem tunerRecord_words (r : TunerRecord) : r.words = [word ((match r.state with
    | .off => 0
    | .noSignal => 1
    | .settling => 2
    | .ready => 3) + (if r.mute then 4 else 0) + 256 * r.reading.note), signedWord r.reading.deviation] ++
      [word (r.reading.frequency / 65536), word (r.reading.frequency % 65536)] := by
  unfold TunerRecord.words
  rw [twoWords_nat]
  rfl

theorem causeCode_eq (c : MeasureCause) : c.code = match c.periodic, c.requested with
    | true, false => 0
    | true, true => 2
    | false, _ => 1 := by
  obtain ⟨periodic, requested⟩ := c
  cases periodic with
  | false => rfl
  | true => cases requested <;> rfl

theorem waitingWord_eq (w : Option Request) : waitingWord w = word (match w with
    | none => 255
    | some (.select n reload) => n.val + 256 + bitIf reload 1024
    | some (.call n) => n.val + 512
    | some .ret => 255 + 768) := by
  rcases w with _ | _ | _ | _ <;> rfl

theorem lastWord_eq (l : Option LastOutcome) : lastWord l = word (match l with
    | none => 255
    | some l => sceneByte l.scene + 256 * l.outcome.code + 4096 * l.request.code) := by
  cases l <;> rfl

/-- Every mailbox shows its record as Table 11-7 lays it out. -/
theorem mailboxesLaidOut : MailboxesLaidOut b := by
  refine ⟨fun c i is => ?_, ?_, ?_, ?_, ?_, ⟨fun n some => ?_, fun none => ?_, ?_⟩, fun j i is => ?_⟩
  · rw [show i = tunerBox c from Fin.ext is]
    exact (words_tuner b c).trans (tunerRecord_words _)
  · show b.tempo.record.words = _
    unfold TempoRecord.words
    rw [twoWords_nat]
    rfl
  · show b.governor.record.words = _
    unfold GovernorRecord.words bypassBits
    simp only [← Nat.add_assoc]
    rfl
  · show b.scene.record.words = _
    unfold SceneRecord.words
    rw [waitingWord_eq, lastWord_eq]
    rfl
  · show b.link.record.words = _
    unfold LinkRecord.words rateCode
    rfl
  · show b.supply.record.words.getD 0 0 = _
    unfold SupplyRecord.words
    rw [some]
    rfl
  · show b.supply.record.words.getD 0 0 = _
    unfold SupplyRecord.words
    rw [none]
    rfl
  · show b.supply.record.words.drop 1 = _
    have recovers : bitIf (b.supply.record.recovery = 1) 4 = if b.supply.record.recovery = 1 then 4 else 0 := by
      unfold bitIf
      simp only [decide_eq_true_eq]
    exact congrArg (fun n => [word b.supply.record.c1, word b.supply.record.c2, word n])
      (congrArg₂ (· + ·) (causeCode_eq b.supply.record.cause) recovers)
  · rw [show i = meterBox j from Fin.ext is, words_meter, twoWords_nat]

/-! ### A read of mailboxes (R144, R162, R190) -/

variable {b} {p : Nat → Bool}

theorem read_tuner (b : Mailboxes) (p : Nat → Bool) (c : Fin 4) :
    (b.read p).tuner[c] = if p c.val then b.tuner[c].clear else b.tuner[c] :=
  tab_get _ c.val c.isLt

theorem read_meter (b : Mailboxes) (p : Nat → Bool) (j : Fin 8) :
    (b.read p).meters[j] = if p (9 + j.val) then ⟨0, false⟩ else b.meters[j] :=
  tab_get _ j.val j.isLt

/-- A box that a read clears where it reaches it. -/
theorem fresh_cleared {α : Type} {x y : Box α} {q : Bool} (cleared : y.fresh = false) (reads : q = true) :
    (if q then y else x).fresh = false := by
  rw [reads, if_pos rfl, cleared]

/-- The fresh flags of the run are clear after the read. -/
theorem fresh_read_of_in {i : Fin 17} (reads : p i.val = true) : (b.read p).fresh i = false := by
  induction i using mailbox_cases with
  | tuner c =>
    rw [fresh_tuner, read_tuner]
    exact fresh_cleared rfl reads
  | tempo => exact fresh_cleared (x := b.tempo) rfl reads
  | governor => exact fresh_cleared (x := b.governor) rfl reads
  | scene => exact fresh_cleared (x := b.scene) rfl reads
  | link => exact fresh_cleared (x := b.link) rfl reads
  | supply => exact fresh_cleared (x := b.supply) rfl reads
  | meter j =>
    rw [fresh_meter, read_meter]
    exact fresh_cleared rfl reads

/-- A box that a read does not reach. -/
theorem box_unread {α : Type} (words : α → List Word) (x : Box α) {y : Box α} {q : Bool} (out : q = false) :
    (if q then y else x).fresh = x.fresh ∧ words (if q then y else x).record = words x.record := by
  rw [out, if_neg Bool.false_ne_true]
  exact ⟨rfl, rfl⟩

/-- A mailbox outside the run stands. -/
theorem read_of_out {i : Fin 17} (out : p i.val = false) :
    (b.read p).fresh i = b.fresh i ∧ (b.read p).words i = b.words i := by
  induction i using mailbox_cases with
  | tuner c =>
    rw [fresh_tuner, fresh_tuner, words_tuner, words_tuner, read_tuner]
    exact box_unread TunerRecord.words b.tuner[c] out
  | tempo => exact box_unread TempoRecord.words b.tempo out
  | governor => exact box_unread GovernorRecord.words b.governor out
  | scene => exact box_unread SceneRecord.words b.scene out
  | link => exact box_unread LinkRecord.words b.link out
  | supply => exact box_unread SupplyRecord.words b.supply out
  | meter j =>
    rw [fresh_meter, fresh_meter, words_meter, words_meter, read_meter]
    exact box_unread (fun r : Nat => twoWords r) b.meters[j] out

/-- A read that clears a box leaves its record. -/
theorem record_cleared {α : Type} (x : Box α) (q : Bool) : (if q then x.clear else x).record = x.record := by
  cases q <;> rfl

/-- The records of mailboxes 0 to 8 but for the governor's stand. -/
theorem words_read {i : Fin 17} (other : i.val ≠ 5) (low : i.val < 9) : (b.read p).words i = b.words i := by
  induction i using mailbox_cases with
  | tuner c => rw [words_tuner, words_tuner, read_tuner, record_cleared]
  | tempo => exact congrArg TempoRecord.words (record_cleared b.tempo _)
  | governor => exact absurd rfl other
  | scene => exact congrArg SceneRecord.words (record_cleared b.scene _)
  | link => exact congrArg LinkRecord.words (record_cleared b.link _)
  | supply => exact congrArg SupplyRecord.words (record_cleared b.supply _)
  | meter j => exact absurd low (Nat.not_lt.mpr (Nat.le_add_right 9 j.val))

end

/-! #### The run (R190, R203) -/

section
variable {first : Fin 17} {n i : Nat}

/-- The mailbox of a number is in the run of n from the first. -/
def reaches (first : Fin 17) (n i : Nat) : Bool := first.val ≤ i && i < first.val + n

theorem reaches_iff : reaches first n i = true ↔ first.val ≤ i ∧ i < first.val + n := by
  unfold reaches
  rw [Bool.and_eq_true, decide_eq_true_eq, decide_eq_true_eq]

theorem reaches_false (out : ¬ (first.val ≤ i ∧ i < first.val + n)) : reaches first n i = false :=
  Bool.eq_false_iff.mpr fun yes => out (reaches_iff.mp yes)

/-- The run is the part of the numbers 0 to 16 that it cuts out. -/
theorem boxRun_eq (first : Fin 17) (n : Nat) : boxRun first n = ((List.finRange 17).drop first.val).take n := by
  have parts : List.finRange 17 = (List.finRange 17).take first.val ++
      (((List.finRange 17).drop first.val).take n ++ ((List.finRange 17).drop first.val).drop n) := by
    rw [List.take_append_drop, List.take_append_drop]
  have before : ((List.finRange 17).take first.val).filter (fun i => reaches first n i.val) = [] :=
    List.filter_eq_nil_iff.mpr fun i mem => by
      obtain ⟨j, h, rfl⟩ := List.mem_iff_getElem.mp mem
      rw [List.length_take] at h
      rw [reaches_iff, List.getElem_take, List.getElem_finRange, Fin.val_cast]
      dsimp only
      omega
  have within : (((List.finRange 17).drop first.val).take n).filter (fun i => reaches first n i.val) =
      ((List.finRange 17).drop first.val).take n :=
    List.filter_eq_self.mpr fun i mem => by
      obtain ⟨j, h, rfl⟩ := List.mem_iff_getElem.mp mem
      rw [List.length_take] at h
      rw [reaches_iff, List.getElem_take, List.getElem_drop, List.getElem_finRange, Fin.val_cast]
      dsimp only
      omega
  have after : (((List.finRange 17).drop first.val).drop n).filter (fun i => reaches first n i.val) = [] :=
    List.filter_eq_nil_iff.mpr fun i mem => by
      obtain ⟨j, h, rfl⟩ := List.mem_iff_getElem.mp mem
      rw [reaches_iff, List.getElem_drop, List.getElem_drop, List.getElem_finRange, Fin.val_cast]
      dsimp only
      omega
  calc boxRun first n
      = (List.finRange 17).filter fun i => reaches first n i.val := rfl
    _ = ((List.finRange 17).drop first.val).take n := by
      rw [parts, List.filter_append, List.filter_append, before, within, after, ← parts, List.nil_append, List.append_nil]

theorem boxRun_length (first : Fin 17) (n : Nat) : (boxRun first n).length = min n (17 - first.val) := by
  rw [boxRun_eq, List.length_take, List.length_drop, List.length_finRange]

/-- The flag of the mailbox i places up the run, and none past its end. -/
theorem runFlag_eq (b : Mailboxes) (first : Fin 17) (n i : Nat) : ((boxRun first n).map b.fresh)[i]? =
    if h : i < n ∧ first.val + i < 17 then some (b.fresh ⟨first.val + i, h.2⟩) else none := by
  rw [boxRun_eq, List.getElem?_map]
  split
  · rename_i h
    obtain ⟨inRun, inRange⟩ := h
    rw [List.getElem?_take, if_pos inRun, List.getElem?_drop, List.getElem?_eq_getElem (by simpa using inRange)]
    simp
  · rename_i h
    rw [List.getElem?_eq_none (by rw [List.length_take, List.length_drop, List.length_finRange]; omega)]
    rfl

/-- The value of a word of flags whose first flag is bit k. -/
def flagsSum (k : Nat) (flags : List Bool) : Nat := ((flags.zipIdx k).map fun p => bitIf p.1 (2 ^ p.2)).sum

theorem flagsSum_cons (k : Nat) (x : Bool) (rest : List Bool) :
    flagsSum k (x :: rest) = bitIf x (2 ^ k) + flagsSum (k + 1) rest := by
  unfold flagsSum
  rw [List.zipIdx_cons, List.map_cons, List.sum_cons]

theorem bitIf_double (x : Bool) (n : Nat) : bitIf x (2 * n) = 2 * bitIf x n := by
  cases x <;> rfl

/-- Flags one place higher are worth twice as much. -/
theorem flagsSum_succ (k : Nat) (flags : List Bool) : flagsSum (k + 1) flags = 2 * flagsSum k flags := by
  induction flags generalizing k with
  | nil => rfl
  | cons x rest ih => rw [flagsSum_cons, flagsSum_cons, ih, Nat.pow_succ', bitIf_double, Nat.mul_add]

theorem flagsSum_zero_cons (x : Bool) (rest : List Bool) : flagsSum 0 (x :: rest) = Nat.bit x (flagsSum 0 rest) := by
  rw [flagsSum_cons, flagsSum_succ]
  cases x with
  | false => exact Nat.zero_add _
  | true => exact Nat.add_comm _ _

theorem flagsSum_testBit (flags : List Bool) (j : Nat) : (flagsSum 0 flags).testBit j = flags[j]?.getD false := by
  induction flags generalizing j with
  | nil => exact Nat.zero_testBit j
  | cons x rest ih =>
    rw [flagsSum_zero_cons]
    cases j with
    | zero => exact Nat.testBit_bit_zero _ _
    | succ j => exact (Nat.testBit_bit_succ _ _ _).trans (ih j)

/-- The bits of a word of flags are the flags (R203). -/
theorem flagsWord_bit (flags : List Bool) {j : Nat} (low : j < 16) :
    (flagsWord flags).getLsbD j = flags[j]?.getD false := by
  have value : flagsWord flags = BitVec.ofNat 16 (flagsSum 0 flags) := rfl
  rw [value, BitVec.getLsbD_ofNat, flagsSum_testBit, decide_eq_true low, Bool.true_and]

/-- The two flag words of a reply: one after the other, the flags of the run (R203). -/
theorem boxWords_flags (b : Mailboxes) (first : Fin 17) (n : Nat) {j : Nat} (h : j < 16) :
    ((boxWords b first n).getD 1 0).getLsbD j = ((boxRun first n).map b.fresh)[j]?.getD false ∧
      ((boxWords b first n).getD 2 0).getLsbD j = ((boxRun first n).map b.fresh)[16 + j]?.getD false := by
  refine ⟨(flagsWord_bit _ h).trans ?_, (flagsWord_bit _ h).trans ?_⟩
  · rw [List.getElem?_take, if_pos h]
  · rw [List.getElem?_drop]

end

/-! #### The parcel (R190) -/

section
variable (first : Fin 17) (n : Nat) (s : State)

/-- The state that a read of a run leaves. -/
def mailboxesRead : State :=
  { setBoxes (fun b => b.read (reaches first n)) s with
    bgv := if reaches first n 5 then { s.bgv with dips := 0, cuts := 0 } else s.bgv }

theorem effReadMailboxes_eq (count : Word) : effReadMailboxes [word first.val, count] s =
    okWith (boxWords s.lct.boxes first (max 1 (min 17 count.toNat)))
      (mailboxesRead first (max 1 (min 17 count.toNat)) s) := by
  have index : bodyNat [word first.val, count] 0 = first.val := word_toNat first.val (by omega)
  unfold effReadMailboxes
  rw [index, withIndex_val]
  refine congrArg (okWith _) ?_
  unfold mailboxesRead
  show (if reaches first (max 1 (min 17 count.toNat)) 5 then _ else _) = _
  split <;> rfl

/-- The governor's counts of dips and cuts are cleared with its mailbox, and stand with it (R162). -/
theorem mailboxesRead_governor :
    (reaches first n 5 = true → (mailboxesRead first n s).bgv = { s.bgv with dips := 0, cuts := 0 } ∧
      (s.lct.boxes.read (reaches first n)).governor =
        ⟨{ s.lct.boxes.governor.record with dips := 0, cuts := 0 }, false⟩) ∧
    (reaches first n 5 = false → (mailboxesRead first n s).bgv = s.bgv ∧
      (s.lct.boxes.read (reaches first n)).governor = s.lct.boxes.governor) := by
  unfold mailboxesRead Mailboxes.read
  dsimp only
  constructor
  · intro reads
    rw [if_pos reads, if_pos reads]
    exact ⟨rfl, rfl⟩
  · intro out
    rw [out, if_neg Bool.false_ne_true, if_neg Bool.false_ne_true]
    exact ⟨rfl, rfl⟩

end

/-- Settles O21: the run is answered as it stood, its flags bit by bit, and each mailbox is cleared or kept by its
number. -/
theorem readMailboxesAnswersAndClearsTheRun : Obligations.ReadMailboxesAnswersAndClearsTheRun := by
  intro tag first count s clear n inRun
  have few : n ≤ 17 := by omega
  have reads {i : Nat} (h : inRun i) : reaches first n i = true := reaches_iff.mpr h
  have out {i : Nat} (h : ¬ inRun i) : reaches first n i = false := reaches_false h
  obtain ⟨governorRead, governorKept⟩ := mailboxesRead_governor first n s
  refine ⟨boxWords s.lct.boxes first n, setQueue s.lct.queue (mailboxesRead first n (consumePermit (executing s))),
    congrArg Host.Outcome.next (arrive_done (tag := tag) clear rfl rfl _ (effReadMailboxes_eq first _ count)),
    ?_, fun j top inside h => ?_, fun top inside => ?_, fun j h past => ?_, fun j h past => ?_, ?_,
    fun i h => fresh_read_of_in (reads h), fun i h => read_of_out (out h), fun i other h => words_read other h,
    fun c => ?_, record_cleared _ _, record_cleared _ _, record_cleared _ _, record_cleared _ _, fun j h => ?_, fun j h => ?_,
    mailboxesLaidOut _, fun h => governorRead (reads h), fun h => governorKept (out h), rfl, rfl, rfl, rfl, rfl, rfl, rfl, rfl,
    rfl⟩
  · show [word (first.val + 256 * (boxRun first n).length)] = _
    rw [boxRun_length]
  · rw [(boxWords_flags _ first n h).1, runFlag_eq, dif_pos ⟨inside, top⟩]
    rfl
  · rw [(boxWords_flags _ first n (j := 0) (by omega)).2, runFlag_eq, dif_pos ⟨inside, top⟩]
    exact congrArg s.lct.boxes.fresh (Fin.ext (show first.val + 16 = 16 by omega))
  · rw [(boxWords_flags _ first n h).1, runFlag_eq, dif_neg past]
    rfl
  · rw [(boxWords_flags _ first n h).2, runFlag_eq, dif_neg (by omega)]
    rfl
  · show (boxRun first n).flatMap s.lct.boxes.words = _
    rw [boxRun_eq]
  · show ((s.lct.boxes.read (reaches first n)).tuner[c]).record = _
    rw [read_tuner, record_cleared]
  · exact (read_meter _ _ j).trans (if_pos (reads h))
  · exact (read_meter _ _ j).trans (if_neg (Bool.eq_false_iff.mp (out h)))

end Sys2Proof.Machine

namespace Sys2Proof.Machine

set_option Elab.async false

/-! ### Guard entries and exits (R164) -/

section
variable {s : State}

theorem guardMoved_of_processing (frames : s.lif.state.processing = true) :
    guardMoved s = markEvaluation (writeGovernorBox (raise .supply s)) :=
  evaluationEvent_of_processing _ (by simpa using frames)

/-- A guard entry or exit leaves the guard state and the force flag as they were set. -/
theorem guardWords_guardMoved (frames : s.lif.state.processing = true) :
    guardWords (guardMoved s) = guardWords s := by
  unfold guardWords
  rw [guardMoved_of_processing frames, markEvaluation_bgv, writeGovernorBox_bgv, raise_bgv]

/-- Where no notice is due, SUPPLY joins the pending set whatever the queue holds (R192; log entry 41). -/
theorem guardMoved_setQueue {q : List (List Word)} (still : noticeDue s = false)
    (stillQueued : noticeDue (setQueue q s) = false) (frames : s.lif.state.processing = true) :
    guardMoved (setQueue q s) = setQueue q (guardMoved s) := by
  have framesQueued : (setQueue q s).lif.state.processing = true := frames
  rw [guardMoved_of_processing frames, guardMoved_of_processing framesQueued, raise_of_not_due _ _ still,
    raise_of_not_due _ _ stillQueued]
  rfl

/-! ### The force flag (R165) -/

theorem forceOn_of_normal (normal : s.bgv.guardState = .normal) :
    forceOn s = guardMoved (setGuard .forced true 0 s) := by
  unfold forceOn
  rw [normal]

theorem forceOn_of_auto (auto : s.bgv.guardState = .auto) :
    forceOn s = writeGovernorBox (setGuard .forced true 0 s) := by
  unfold forceOn
  rw [auto]

theorem forceOn_of_forced (forced : s.bgv.guardState = .forced) : forceOn s = setGuard .forced true 0 s := by
  unfold forceOn
  rw [forced]

theorem forceOff_to_auto {n : Nat} (forced : s.bgv.guardState = .forced) (reading : s.bgv.reading = some n)
    (low : n < 455) : forceOff s = writeGovernorBox (setGuard .auto false 0 s) := by
  unfold forceOff
  rw [forced, reading]
  exact if_pos low

theorem forceOff_to_normal (forced : s.bgv.guardState = .forced) (high : ∀ n, s.bgv.reading = some n → 455 ≤ n) :
    forceOff s = guardMoved (setGuard .normal false 0 s) := by
  unfold forceOff
  rw [forced]
  cases reading : s.bgv.reading with
  | none => rfl
  | some n => exact if_neg (Nat.not_lt.mpr (high n reading))

theorem forceOff_of_normal (normal : s.bgv.guardState = .normal) :
    forceOff s = setGuard .normal false s.bgv.recovery s := by
  unfold forceOff
  rw [normal]

theorem forceOff_of_auto (auto : s.bgv.guardState = .auto) :
    forceOff s = setGuard .auto false s.bgv.recovery s := by
  unfold forceOff
  rw [auto]

theorem forceOn_setQueue {q : List (List Word)} (still : noticeDue s = false)
    (stillQueued : noticeDue (setQueue q s) = false) (frames : s.lif.state.processing = true) :
    forceOn (setQueue q s) = setQueue q (forceOn s) := by
  cases guard : s.bgv.guardState with
  | normal =>
    rw [forceOn_of_normal guard, forceOn_of_normal (s := setQueue q s) guard]
    exact guardMoved_setQueue (s := setGuard .forced true 0 s) still stillQueued frames
  | auto => rw [forceOn_of_auto guard, forceOn_of_auto (s := setQueue q s) guard]; rfl
  | forced => rw [forceOn_of_forced guard, forceOn_of_forced (s := setQueue q s) guard]; rfl

theorem forceOff_setQueue {q : List (List Word)} (still : noticeDue s = false)
    (stillQueued : noticeDue (setQueue q s) = false) (frames : s.lif.state.processing = true) :
    forceOff (setQueue q s) = setQueue q (forceOff s) := by
  cases guard : s.bgv.guardState with
  | normal => rw [forceOff_of_normal guard, forceOff_of_normal (s := setQueue q s) guard]; rfl
  | auto => rw [forceOff_of_auto guard, forceOff_of_auto (s := setQueue q s) guard]; rfl
  | forced =>
    by_cases high : ∀ n, s.bgv.reading = some n → 455 ≤ n
    · rw [forceOff_to_normal guard high, forceOff_to_normal (s := setQueue q s) guard high]
      exact guardMoved_setQueue (s := setGuard .normal false 0 s) still stillQueued frames
    · push Not at high
      obtain ⟨n, reading, low⟩ := high
      rw [forceOff_to_auto guard reading low, forceOff_to_auto (s := setQueue q s) guard reading low]
      rfl

/-- A parcel whose block does f and answers the guard words does f with the reply left out of the queue, where f is
blind to the queue while no notice is due (R187, R192; log entry 41). -/
theorem exec_force {k : Kind} {f : State → State} (tag : Word) (clear : Clear k s)
    (len : kindAccepts k ([] : List Word).length = true) (unguarded : kindGuarded k = false)
    (effect : ∀ t, kindEffect k [] t = okWith (guardWords (f t)) (f t))
    (blind : ∀ q, noticeDue (consumePermit s) = false → noticeDue (setQueue q (consumePermit s)) = false →
      f (setQueue q (consumePermit s)) = setQueue q (f (consumePermit s))) :
    Host.Outcome.next (arriveParcel { kind := Kind.code k, tag := tag, body := [] } (settle s)) =
      (Host.Outcome.next (replied k tag .ok (guardWords (f (consumePermit s))) (f (consumePermit s))) : Result) := by
  have calm : noticeDue (consumePermit s) = false := by
    obtain ⟨quiet, -, -⟩ := clear
    exact noticeDue_of_quiet quiet
  have own : f (consumePermit s) = setQueue s.lct.queue (f (consumePermit s)) := blind s.lct.queue calm calm
  have atReply : f (atBlock s) = setQueue (s.lct.queue ++ [[]]) (f (consumePermit s)) :=
    blind _ calm (noticeDue_of_queued _ (by simp))
  rw [arrive_done (tag := tag) clear len unguarded _ (effect (atBlock s)), atReply, setQueue_setQueue, ← own]
  rfl

theorem exec_forceGuardOn (tag : Word) {words : List Word} {t : State} (frames : s.lif.state.processing = true)
    (clear : Clear .forceGuardOn s) (leaves : forceOn (consumePermit s) = t) (answers : guardWords t = words) :
    exec (.forceGuardOn tag []) s = .next (replied .forceGuardOn tag .ok words t) := by
  rw [← answers, ← leaves]
  exact exec_force tag clear rfl rfl (fun _ => rfl) fun _ still queued => forceOn_setQueue still queued frames

theorem exec_forceGuardOff (tag : Word) {words : List Word} {t : State} (frames : s.lif.state.processing = true)
    (clear : Clear .forceGuardOff s) (leaves : forceOff (consumePermit s) = t) (answers : guardWords t = words) :
    exec (.forceGuardOff tag []) s = .next (replied .forceGuardOff tag .ok words t) := by
  rw [← answers, ← leaves]
  exact exec_force tag clear rfl rfl (fun _ => rfl) fun _ still queued => forceOff_setQueue still queued frames

end

/-- Settles O55: each parcel does to the state without the permit what the row of its guard state and reading says. -/
theorem forceParcelsMoveTheGuard : Obligations.ForceParcelsMoveTheGuard := by
  intro tag s frames u set moved on off
  have moves (g : GuardState) (force : Bool) : guardMoved (setGuard g force 0 u) = moved (set g force 0) :=
    guardMoved_of_processing (s := set g force 0) frames
  have words (g : GuardState) (force : Bool) :
      guardWords (moved (set g force 0)) = [word g.code, flagWord force] :=
    (congrArg guardWords (moves g force)).symm.trans (guardWords_guardMoved (s := set g force 0) frames)
  refine ⟨fun clear => ⟨fun normal => ?_, fun auto => ?_, fun forced => ?_⟩,
    fun clear => ⟨fun forced n reading low => ?_, fun forced high => ?_, fun normal => ?_, fun auto => ?_⟩⟩
  · exact exec_forceGuardOn tag frames clear ((forceOn_of_normal (s := u) normal).trans (moves _ _)) (words _ _)
  · exact exec_forceGuardOn tag frames clear (forceOn_of_auto (s := u) auto) rfl
  · exact exec_forceGuardOn tag frames clear (forceOn_of_forced (s := u) forced) rfl
  · exact exec_forceGuardOff tag frames clear (forceOff_to_auto (s := u) forced reading low) rfl
  · exact exec_forceGuardOff tag frames clear ((forceOff_to_normal (s := u) forced high).trans (moves _ _)) (words _ _)
  · exact exec_forceGuardOff tag frames clear (forceOff_of_normal (s := u) normal) rfl
  · exact exec_forceGuardOff tag frames clear (forceOff_of_auto (s := u) auto) rfl

/-! ### The measurement (R163) -/

theorem supplyCheckJoins_of_idle {b : Bgv} (idle : b.running = none) (noStart : b.starting = none) :
    supplyCheckJoins b = decide (b.request ∨ 249 ≤ b.schedule) := by
  unfold supplyCheckJoins Bgv.periodicTick
  rw [idle, noStart, Bool.decide_or, Bool.decide_eq_true]
  rfl

theorem supplyCheckJoins_of_running {b : Bgv} {c : MeasureCause} (running : b.running = some c) :
    supplyCheckJoins b = true := by
  unfold supplyCheckJoins
  rw [running]
  rfl

theorem check_of_idle {b : Bgv} (idle : b.running = none) (noStart : b.starting = none) :
    b.check = { b with request := true } := by
  unfold Bgv.check
  rw [idle, noStart]

theorem check_of_running {b : Bgv} {c : MeasureCause} (running : b.running = some c) :
    b.check = { b with running := some c.joined } := by
  unfold Bgv.check
  rw [running]

theorem flagWord_decide (p : Prop) [Decidable p] : flagWord (decide p) = if p then 1 else 0 := by
  unfold flagWord
  by_cases h : p <;> simp [h]

section
variable {s : State}

theorem exec_supplyCheck (tag : Word) (clear : Clear .supplyCheck s) : exec (.supplyCheck tag []) s =
    .next (replied .supplyCheck tag .ok [flagWord (supplyCheckJoins s.bgv)]
      { consumePermit s with bgv := s.bgv.check }) :=
  congrArg Host.Outcome.next (arrive_done (k := .supplyCheck) (body := []) clear rfl rfl _ rfl)

theorem measurementStartDue_of (waits : s.bgv.starting ≠ none) (idle : s.bgv.running = none) :
    measurementStartDue s = true := by
  unfold measurementStartDue
  rw [idle, Option.isSome_iff_ne_none.mpr waits]
  rfl

theorem exec_supplyReading {cause : MeasureCause} (c1 c2 : Int) (calm : quiet s = true)
    (running : s.bgv.running = some cause) : exec (.supplyReading c1 c2) s =
      .next (takeReading cause (conversion c1) (conversion c2) s) := by
  show execSupplyReading c1 c2 s = _
  unfold execSupplyReading
  rw [settle_of_quiet s calm, running]

/-! ### Readings and the guard (R164) -/

/-- A reading stands, and the guard has not moved yet. -/
def withReading (n : Nat) (s : State) : State := { s with bgv := { s.bgv with reading := some n } }

theorem applyReading_normal_low {n : Nat} (normal : s.bgv.guardState = .normal) (low : n < 455) :
    applyReading n s = guardMoved (setGuard .auto s.bgv.force 0 (withReading n s)) := by
  unfold applyReading
  rw [normal]
  exact if_pos low

theorem applyReading_normal_high {n : Nat} (normal : s.bgv.guardState = .normal) (high : 455 ≤ n) :
    applyReading n s = withReading n s := by
  unfold applyReading
  rw [normal]
  exact if_neg (Nat.not_lt.mpr high)

theorem applyReading_auto_first {n : Nat} (auto : s.bgv.guardState = .auto) (high : 470 ≤ n)
    (first : s.bgv.recovery = 0) :
    applyReading n s = setGuard .auto s.bgv.force 1 (withReading n s) := by
  unfold applyReading
  rw [auto]
  exact (if_pos high).trans (if_pos first)

theorem applyReading_auto_second {n : Nat} (auto : s.bgv.guardState = .auto) (high : 470 ≤ n)
    (second : s.bgv.recovery ≠ 0) :
    applyReading n s = guardMoved (setGuard .normal s.bgv.force 0 (withReading n s)) := by
  unfold applyReading
  rw [auto]
  exact (if_pos high).trans (if_neg second)

theorem applyReading_auto_low {n : Nat} (auto : s.bgv.guardState = .auto) (low : n < 470) :
    applyReading n s = setGuard .auto s.bgv.force 0 (withReading n s) := by
  unfold applyReading
  rw [auto]
  exact if_neg (Nat.not_le.mpr low)

theorem applyReading_forced (n : Nat) (forced : s.bgv.guardState = .forced) :
    applyReading n s = withReading n s := by
  unfold applyReading
  rw [forced]
  rfl

theorem setGuard_self {g : GuardState} (guard : s.bgv.guardState = g) :
    setGuard g s.bgv.force s.bgv.recovery s = s := by
  rw [← guard]
  rfl

end

/-- Settles O56: the check joins or chooses by what runs and waits, and the completed reading acts by the row of its
guard state. -/
theorem supplyMeasurementMovesTheGuard : Obligations.SupplyMeasurementMovesTheGuard := by
  refine ⟨fun tag s clear idle noStart => ?_, fun tag c s clear running => ?_, fun s waits idle => ?_,
    fun c1 c2 cause s calm frames running => ?_⟩
  · rw [exec_supplyCheck tag clear, supplyCheckJoins_of_idle idle noStart, check_of_idle idle noStart, flagWord_decide]
  · rw [exec_supplyCheck tag clear, supplyCheckJoins_of_running running, check_of_running running]
    rfl
  · exact exec_event (e := .measurementStart) (measurementStartDue_of waits idle)
  · intro a b n set moved run
    let m : State := writeSupplyBox ⟨some n, a, b, cause, s.bgv.recovery⟩
      { s with bgv := { s.bgv with running := none } }
    have taken {t : State} (h : applyReading n m = t) : run = .next t :=
      (exec_supplyReading c1 c2 calm running).trans (congrArg Host.Outcome.next h)
    have moves (g : GuardState) : guardMoved (set g 0) = moved (set g 0) := guardMoved_of_processing frames
    have stays {g : GuardState} (guard : s.bgv.guardState = g) : withReading n m = set g s.bgv.recovery :=
      (setGuard_self (s := withReading n m) guard).symm
    refine ⟨fun normal low => ?_, fun normal high => ?_, fun auto high first => ?_, fun auto high second => ?_,
      fun auto low => ?_, fun forced => ?_⟩
    · exact taken ((applyReading_normal_low (s := m) normal low).trans (moves .auto))
    · exact taken ((applyReading_normal_high (s := m) normal high).trans (stays normal))
    · exact taken (applyReading_auto_first (s := m) auto high first)
    · exact taken ((applyReading_auto_second (s := m) auto high second).trans (moves .normal))
    · exact taken (applyReading_auto_low (s := m) auto low)
    · exact taken ((applyReading_forced (s := m) n forced).trans (stays forced))

end Sys2Proof.Machine

namespace Sys2Proof.Machine

set_option Elab.async false

/-! ### Power-on (R166, R189, R194, R198) -/

/-- Every fresh flag is clear at power-on (R189). -/
theorem mailboxesReset_fresh (i : Fin 17) : Mailboxes.reset.fresh i = false := by
  cases i using mailbox_cases with
  | tuner c => simp [fresh_tuner, Mailboxes.reset]
  | meter j => simp [fresh_meter, Mailboxes.reset]
  | tempo | governor | scene | link | supply => rfl

/-- Settles O2: the state after power-on is a literal but for the commands that wait. -/
theorem powerOnSetsLinkAndLane : Obligations.PowerOnSetsLinkAndLane := fun s =>
  ⟨State.reset.withPending s.pending, rfl, rfl, rfl, rfl, rfl, rfl, fun i => Vector.getElem_replicate i.isLt, rfl, rfl,
    rfl, rfl, rfl, rfl, rfl, rfl, rfl, rfl, rfl, mailboxesReset_fresh⟩

/-! ### The parcels of the formats, the notices and the counters (R178, R193, R195) -/

theorem classWord_eq_setWidth (classes : BitVec 8) : classWord classes = classes.setWidth 16 :=
  (BitVec.setWidth_eq_append (by omega)).symm

theorem lowByte_eq_setWidth (w : Word) : lowByte w = w.setWidth 8 := (BitVec.setWidth_eq_extractLsb' (by omega)).symm

/-- The classes that a word of a mask names. -/
theorem classWord_lowByte (w : Word) : classWord (lowByte w) = w &&& 0xFF := by
  apply BitVec.eq_of_toNat_eq
  rw [classWord_eq_setWidth, BitVec.toNat_setWidth, lowByte_toNat, BitVec.toNat_and]
  have low : w.toNat &&& 255 = w.toNat % 256 := Nat.and_two_pow_sub_one_eq_mod w.toNat 8
  have : (0xFF : Word).toNat = 255 := rfl
  rw [this, low]
  omega

theorem effWriteNoticeMask_eq (mask : Word) (s : State) : effWriteNoticeMask [mask] s =
    okWith [mask &&& 0xFF] { s with lct := { s.lct with mask := mask.setWidth 8 } } := by
  rw [← classWord_lowByte, ← lowByte_eq_setWidth]
  rfl

theorem effReadNotices_eq (s : State) : effReadNotices s =
    okWith [s.lct.notices.setWidth 16] { s with lct := { s.lct with notices := 0 } } := by
  rw [← classWord_eq_setWidth]
  rfl

theorem effReadCounters_eq (flag : Word) (s : State) : effReadCounters [flag] s =
    okWith (counterWords s.lct.counters) { s with lct := { s.lct with
      counters := if flag.getLsbD 0 then Counters.zero else s.lct.counters } } := by
  have set : bodyFlag [flag] 0 = flag.getLsbD 0 := rfl
  unfold effReadCounters
  rw [set]
  cases flag.getLsbD 0 <;> rfl

/-- Settles O20: each parcel is admitted with nothing before it, so its owning block answers and stores. -/
theorem formatNoticeAndCounterParcels : Obligations.FormatNoticeAndCounterParcels :=
  ⟨fun _ _ _ _ clear adm => congrArg Host.Outcome.next (arrive_done_of_admitted clear rfl adm rfl),
    fun _ _ clear => congrArg Host.Outcome.next (arrive_done clear rfl rfl _ (effReadNotices_eq _)),
    fun _ mask _ clear => congrArg Host.Outcome.next (arrive_done clear rfl rfl _ (effWriteNoticeMask_eq mask _)),
    fun _ flag _ clear => congrArg Host.Outcome.next (arrive_done clear rfl rfl _ (effReadCounters_eq flag _))⟩

/-! ### The check byte (R177) -/

theorem crcBit_of_eq {register : BitVec 8} {bit : Bool} (same : register.getLsbD 7 = bit) :
    crcBit register bit = register <<< 1 := if_pos same

theorem crcBit_of_ne {register : BitVec 8} {bit : Bool} (other : register.getLsbD 7 ≠ bit) :
    crcBit register bit = register <<< 1 ^^^ 0x07 := if_neg other

/-- The lowest bit of the register tells whether the polynomial entered it. -/
theorem crcBit_lsb (register : BitVec 8) (bit : Bool) :
    (crcBit register bit).getLsbD 0 = (register.getLsbD 7 != bit) := by
  by_cases same : register.getLsbD 7 = bit
  · rw [crcBit_of_eq same, same]
    simp
  · rw [crcBit_of_ne same, bne_iff_ne.mpr same]
    simp

/-- A step of the register loses nothing: the lowest bit of the result tells the bit shifted out. -/
theorem crcBit_injective {bit : Bool} {r r' : BitVec 8} (equal : crcBit r bit = crcBit r' bit) : r = r' := by
  have lsb : (r.getLsbD 7 != bit) = (r'.getLsbD 7 != bit) := by rw [← crcBit_lsb, ← crcBit_lsb, equal]
  have top : r.getLsbD 7 = r'.getLsbD 7 := Bool.bne_left_inj.mp lsb
  have shifted : r <<< 1 = r' <<< 1 := by
    by_cases same : r.getLsbD 7 = bit
    · rwa [crcBit_of_eq same, crcBit_of_eq (top ▸ same)] at equal
    · rw [crcBit_of_ne same, crcBit_of_ne (top ▸ same)] at equal
      exact (BitVec.xor_left_inj _).mp equal
  apply BitVec.eq_of_getLsbD_eq
  intro i inside
  obtain rfl | below : i = 7 ∨ i + 1 < 8 := by omega
  · exact top
  · have moved : (r <<< 1).getLsbD (i + 1) = (r' <<< 1).getLsbD (i + 1) := by rw [shifted]
    simpa [below, -BitVec.getLsbD_eq_getElem, BitVec.getLsbD_shiftLeft] using moved

/-- Two registers that differ differ after the same bits. -/
theorem crcBits_injective (bits : List Bool) : Function.Injective (crcBits bits) := by
  induction bits with
  | nil => exact Function.injective_id
  | cons bit rest ih => exact ih.comp fun _ _ => crcBit_injective

/-- Of two different bits, one lets the polynomial enter the register and the other does not. -/
theorem crcBit_ne (register : BitVec 8) {x y : Bool} (differ : x ≠ y) : crcBit register x ≠ crcBit register y := by
  intro equal
  have lsb : (register.getLsbD 7 != x) = (register.getLsbD 7 != y) := by rw [← crcBit_lsb, ← crcBit_lsb, equal]
  exact differ (Bool.bne_right_inj.mp lsb)

theorem crcBits_append (first second : List Bool) (register : BitVec 8) :
    crcBits (first ++ second) register = crcBits second (crcBits first register) := List.foldl_append

/-- Strings that differ in one bit alone leave different registers. -/
theorem crcBits_ne_of_single (before after : List Bool) (register : BitVec 8) {x y : Bool} (differ : x ≠ y) :
    crcBits (before ++ x :: after) register ≠ crcBits (before ++ y :: after) register := by
  rw [crcBits_append, crcBits_append]
  exact fun equal => crcBit_ne _ differ (crcBits_injective after equal)

/-- Strings of one length that agree but at position i. -/
theorem eq_set_of_getD_agree {a b : List Bool} (length : a.length = b.length) (i : Nat)
    (agree : ∀ j < a.length, j ≠ i → a.getD j false = b.getD j false) : b = a.set i (b.getD i false) := by
  apply List.ext_getElem (by simp [length])
  intro j inB inSet
  have inA : j < a.length := length ▸ inB
  rw [List.getElem_set]
  split
  next here => subst here; simp [inB]
  next elsewhere => simpa [inA, inB] using (agree j inA (Ne.symm elsewhere)).symm

/-- Settles O13: the strings differ in one bit, and what follows it keeps the registers apart. -/
theorem checkByteShowsEverySingleBit : Obligations.CheckByteShowsEverySingleBit := by
  intro a b lengthA lengthB i inside single
  have inA : i < a.length := lengthA ▸ inside
  have changed : b = a.set i (b.getD i false) :=
    eq_set_of_getD_agree (lengthA.trans lengthB.symm) i fun j inA' other =>
      not_not.mp fun differ => other ((single j (lengthA ▸ inA')).mp differ)
  have differ : a[i] ≠ b.getD i false := by simpa [inA] using (single i inside).mpr rfl
  rw [changed, List.set_eq_take_append_cons_drop, if_pos inA]
  have split : a = a.take i ++ a[i] :: a.drop (i + 1) := by simp
  conv_lhs => rw [split]
  exact crcBits_ne_of_single _ _ 0 differ

end Sys2Proof.Machine

namespace Sys2Proof.Machine

set_option Elab.async false

/-! ### Worked words (R177, R200) -/

/-- The bits of some slot words in turn. -/
def slotBits (slots : List (BitVec 32)) : List Bool := slots.flatMap fun w => wordBits w

theorem checkedBits_eq (number : BitVec 8) (slots : Vector (BitVec 32) 8) (lane : Word) :
    checkedBits number slots lane = wordBits number ++ slotBits slots.toList ++ wordBits lane := rfl

/-- A register of 0 stays 0 while zero bits enter it. -/
theorem crcBits_zeros (n : Nat) : crcBits (List.replicate n false) 0 = 0 := by
  induction n with
  | zero => rfl
  | succ n ih => exact ih

theorem wordBits_zero (n : Nat) : wordBits (0 : BitVec n) = List.replicate n false := by
  simp [wordBits, List.map_const']

theorem crcBits_zeros_append (n : Nat) (bits : List Bool) :
    crcBits (List.replicate n false ++ bits) 0 = crcBits bits 0 := by
  rw [crcBits_append, crcBits_zeros]

theorem slotBits_zero (n : Nat) : slotBits (List.replicate n 0) = List.replicate (n * 32) false := by
  unfold slotBits
  rw [List.flatMap_replicate, wordBits_zero, List.flatten_replicate_replicate]

/-- The check byte of a frame that is zero before the last bits of its lane word is that of these bits (R177). -/
theorem checkByte_of_zeros {lane : Word} (n : Nat) (bits : List Bool)
    (ends : wordBits lane = List.replicate n false ++ bits) :
    checkByte 0 (Vector.replicate 8 0) lane = crcBits bits 0 := by
  have slots : (Vector.replicate 8 (0 : BitVec 32)).toList = List.replicate 8 0 := rfl
  have checked : checkedBits 0 (Vector.replicate 8 0) lane =
      List.replicate 8 false ++ (List.replicate (8 * 32) false ++ (List.replicate n false ++ bits)) := by
    rw [checkedBits_eq, slots, slotBits_zero, wordBits_zero, ends, List.append_assoc]
  unfold checkByte
  rw [checked, crcBits_zeros_append, crcBits_zeros_append, crcBits_zeros_append]

/-! ### Slot words (R178) -/

/-- 24 bits hold a sample. -/
theorem ofInt_toInt_of_isSample {z : Int} (sample : IsSample z) : (BitVec.ofInt 24 z).toInt = z := by
  obtain ⟨low, high⟩ := sample
  exact BitVec.toInt_ofInt_eq_self (by decide) low (Int.lt_add_one_of_le high)

theorem extractLsb'_signExtend (w : BitVec 24) : (w.signExtend 32).extractLsb' 0 24 = w := by
  apply BitVec.eq_of_getLsbD_eq
  intro i inside
  have wide : i < 32 := by omega
  simp only [BitVec.getLsbD_extractLsb', BitVec.getLsbD_signExtend, inside, wide, Nat.zero_add, decide_true,
    Bool.true_and, if_true]

/-- A sample survives both slot formats (R178). -/
theorem sample_slotWord (f : SlotFormat) {z : Int} (sample : IsSample z) : f.sample (f.slotWord z) = z := by
  cases f with
  | left => exact (congrArg BitVec.toInt BitVec.extractLsb'_append_eq_left).trans (ofInt_toInt_of_isSample sample)
  | right => exact (congrArg BitVec.toInt (extractLsb'_signExtend _)).trans (ofInt_toInt_of_isSample sample)

/-! ### The bits of a word, read back (R167) -/

/-- The first m of the n bits of a word spell the number of its m high bits. -/
theorem foldl_wordBits_take {n : Nat} (w : BitVec n) {m : Nat} (few : m ≤ n) :
    ((List.range m).map fun i => w.getMsbD i).foldl (fun value bit => 2 * value + bit.toNat) 0 =
      w.toNat / 2 ^ (n - m) := by
  induction m with
  | zero => simp [Nat.div_eq_of_lt w.isLt]
  | succ m ih =>
    have inside : m < n := few
    have bit : (w.getMsbD m).toNat = w.toNat / 2 ^ (n - (m + 1)) % 2 := by
      rw [BitVec.getMsbD, decide_eq_true inside, Bool.true_and, ← BitVec.testBit_toNat, Nat.toNat_testBit,
        show n - 1 - m = n - (m + 1) by omega]
    have half : w.toNat / 2 ^ (n - m) = w.toNat / 2 ^ (n - (m + 1)) / 2 := by
      rw [Nat.div_div_eq_div_mul, ← pow_succ, show n - (m + 1) + 1 = n - m by omega]
    rw [List.range_succ, List.map_append, List.foldl_append, ih inside.le, half]
    show 2 * _ + (w.getMsbD m).toNat = _
    rw [bit]
    exact Nat.div_add_mod _ 2

@[simp] theorem bitsWord_wordBits {n : Nat} (w : BitVec n) : bitsWord n (wordBits w) = w := by
  unfold bitsWord wordBits
  rw [foldl_wordBits_take w le_rfl, Nat.sub_self, pow_zero, Nat.div_one]
  exact (BitVec.ofNat_toNat n w).trans (BitVec.setWidth_eq w)

/-! ### A frame on the line (R167, R199, Table 11-1) -/

theorem cut_of_append {pre field post : List Bool} {first count : Nat} (starts : pre.length = first)
    (takes : field.length = count) : ((pre ++ field ++ post).drop first).take count = field := by
  subst starts takes
  simp

section
variable (f : Frame) (before after : List Bool)

/-- What stands in a frame stands on the line, as far behind the frame's position (R167). -/
theorem cut_of_frameBits {pre field post : List Bool} {first count : Nat} (split : frameBits f = pre ++ field ++ post)
    (starts : pre.length = first) (takes : field.length = count) :
    ((before ++ frameBits f ++ after).drop (before.length + first)).take count = field := by
  have line : before ++ frameBits f ++ after = (before ++ pre) ++ field ++ (post ++ after) := by
    rw [split]
    simp only [List.append_assoc]
  rw [line]
  exact cut_of_append (by rw [List.length_append, starts]) takes

@[simp] theorem frameBits_length : (frameBits f).length = 304 := by simp [frameBits]

@[simp] theorem slotBits_length (slots : List (BitVec 32)) : (slotBits slots).length = 32 * slots.length := by
  induction slots with
  | nil => rfl
  | cons w rest ih =>
    have front : slotBits (w :: rest) = wordBits w ++ slotBits rest := rfl
    rw [front, List.length_append, ih, wordBits_length, List.length_cons]
    omega

/-- The bits of the slot words, with one of them set apart. -/
theorem slotBits_split (slots : Vector (BitVec 32) 8) (i : Fin 8) :
    slotBits slots.toList = slotBits (slots.toList.take i.val) ++ wordBits slots[i] ++
      slotBits (slots.toList.drop (i.val + 1)) := by
  have apart : slots.toList = slots.toList.take i.val ++ slots[i] :: slots.toList.drop (i.val + 1) := by
    simp [← Vector.getElem_toList]
  conv_lhs => rw [apart]
  simp only [slotBits, List.flatMap_append, List.flatMap_cons, List.append_assoc]

/-- The fields of a frame in the order of Table 11-1. -/
theorem frameBits_fields : frameBits f =
    wordBits syncPattern ++ wordBits f.number ++ slotBits f.slots.toList ++ wordBits f.lane ++ wordBits f.check := by
  simp only [frameBits, checkedBits_eq, List.append_assoc]

theorem cut_sync : ((before ++ frameBits f ++ after).drop (before.length + 0)).take 16 = wordBits syncPattern :=
  cut_of_frameBits f before after (pre := []) (by rw [frameBits, List.append_assoc]; rfl) rfl (wordBits_length _)

theorem cut_checked : ((before ++ frameBits f ++ after).drop (before.length + 16)).take 280 =
    checkedBits f.number f.slots f.lane :=
  cut_of_frameBits f before after rfl (wordBits_length _) (checkedBits_length _ _ _)

theorem cut_number : ((before ++ frameBits f ++ after).drop (before.length + 16)).take 8 = wordBits f.number :=
  cut_of_frameBits f before after (by simp only [frameBits_fields, List.append_assoc]; rfl) (wordBits_length syncPattern)
    (wordBits_length _)

theorem cut_slot (i : Fin 8) :
    ((before ++ frameBits f ++ after).drop (before.length + (24 + 32 * i.val))).take 32 = wordBits f.slots[i] :=
  cut_of_frameBits f before after
    (pre := wordBits syncPattern ++ wordBits f.number ++ slotBits (f.slots.toList.take i.val))
    (post := slotBits (f.slots.toList.drop (i.val + 1)) ++ wordBits f.lane ++ wordBits f.check)
    (by simp only [frameBits_fields, slotBits_split f.slots i, List.append_assoc])
    (by
      simp only [List.length_append, wordBits_length, slotBits_length, List.length_take, Vector.length_toList]
      omega)
    (wordBits_length _)

theorem cut_lane : ((before ++ frameBits f ++ after).drop (before.length + 280)).take 16 = wordBits f.lane :=
  cut_of_frameBits f before after (frameBits_fields f) (by simp) (wordBits_length _)

theorem cut_check : ((before ++ frameBits f ++ after).drop (before.length + 296)).take 8 = wordBits f.check :=
  cut_of_frameBits f before after (post := []) (by rw [List.append_nil]; rfl) (by simp) (wordBits_length _)

theorem syncAt_frame : syncAt (before ++ frameBits f ++ after) before.length = true :=
  decide_eq_true (cut_sync f before after)

/-- A frame is read back at the position at which it stands (R199). -/
theorem frameAt_frame : frameAt (before ++ frameBits f ++ after) before.length = f := by
  have slots : (tab fun i : Fin 8 => fieldAt 32 (before ++ frameBits f ++ after) (before.length + 24 + 32 * i.val)) =
      f.slots := by
    ext i inside : 1
    rw [tab_get, fieldAt, Nat.add_assoc, cut_slot f before after ⟨i, inside⟩, bitsWord_wordBits]
    rfl
  unfold frameAt
  rw [slots, fieldAt, fieldAt, fieldAt, cut_number, cut_lane, cut_check, bitsWord_wordBits, bitsWord_wordBits,
    bitsWord_wordBits]

/-- In LOCKED, a frame at its expected position is received as it was sent (R170). -/
theorem lockedCommand_frame :
    lockedCommand (before ++ frameBits f ++ after) before.length = .frameReceived f := by
  unfold lockedCommand
  rw [if_pos (syncAt_frame f before after), frameAt_frame]

end

/-! ### The hunt (R168, R174) -/

/-- A position and the successive one both show sync (R168). -/
def SyncTwice (line : List Bool) (n : Nat) : Prop := syncAt line n = true ∧ syncAt line (n + 304) = true

theorem not_syncTwice_nil (n : Nat) : ¬ SyncTwice [] n := by
  rintro ⟨sync, -⟩
  have bits : ([] : List Bool) = wordBits syncPattern := by simpa [syncAt] using sync
  exact absurd (congrArg List.length bits) (by simp)

/-- Positions behind the first bit are those of the rest of the line. -/
theorem syncTwice_cons_succ (bit : Bool) (rest : List Bool) (n : Nat) :
    SyncTwice (bit :: rest) (n + 1) ↔ SyncTwice rest n := by
  have shift : n + 1 + 304 = n + 304 + 1 := by omega
  unfold SyncTwice
  rw [shift]
  rfl

theorem syncTwice_drop (line : List Bool) (p n : Nat) : SyncTwice (line.drop p) n ↔ SyncTwice line (p + n) := by
  unfold SyncTwice syncAt
  rw [List.drop_drop, List.drop_drop, Nat.add_assoc]

theorem hunt_cons_of_syncTwice {bit : Bool} {rest : List Bool} (found : SyncTwice (bit :: rest) 0) :
    hunt (bit :: rest) = some 304 := by
  obtain ⟨here, next⟩ := found
  exact if_pos (Bool.and_eq_true_iff.mpr ⟨here, next⟩)

theorem hunt_cons_of_not_syncTwice {bit : Bool} {rest : List Bool} (dropped : ¬ SyncTwice (bit :: rest) 0) :
    hunt (bit :: rest) = (hunt rest).map (· + 1) :=
  if_neg fun both => dropped (Bool.and_eq_true_iff.mp both)

/-- A position is the first at or behind another that shows sync together with the successive one. -/
def FirstSyncTwice (line : List Bool) (p n : Nat) : Prop :=
  p ≤ n ∧ SyncTwice line n ∧ ∀ m, p ≤ m → m < n → ¬ SyncTwice line m

/-- Where the first position is no such one, it is looked for behind the first bit. -/
theorem firstSyncTwice_cons_succ {bit : Bool} {rest : List Bool} (dropped : ¬ SyncTwice (bit :: rest) 0) (n : Nat) :
    FirstSyncTwice (bit :: rest) 0 (n + 1) ↔ FirstSyncTwice rest 0 n := by
  constructor
  · rintro ⟨_, both, skips⟩
    refine ⟨Nat.zero_le _, (syncTwice_cons_succ bit rest n).mp both, fun m _ earlier sync => ?_⟩
    exact skips (m + 1) (Nat.zero_le _) (by omega) ((syncTwice_cons_succ bit rest m).mpr sync)
  · rintro ⟨_, both, skips⟩
    refine ⟨Nat.zero_le _, (syncTwice_cons_succ bit rest n).mpr both, fun m _ earlier => ?_⟩
    cases m with
    | zero => exact dropped
    | succ m => exact fun sync => skips m (Nat.zero_le _) (by omega) ((syncTwice_cons_succ bit rest m).mp sync)

/-- The hunt of a line ends at the second position of the first pair (R168). -/
theorem hunt_eq_some_iff (line : List Bool) (q : Nat) :
    hunt line = some q ↔ ∃ n, FirstSyncTwice line 0 n ∧ q = n + 304 := by
  induction line generalizing q with
  | nil => exact ⟨nofun, fun ⟨n, ⟨_, both, _⟩, _⟩ => absurd both (not_syncTwice_nil n)⟩
  | cons bit rest ih =>
    by_cases here : SyncTwice (bit :: rest) 0
    · rw [hunt_cons_of_syncTwice here]
      constructor
      · rintro ⟨⟩
        exact ⟨0, ⟨le_rfl, here, nofun⟩, rfl⟩
      · rintro ⟨n, ⟨_, _, skips⟩, rfl⟩
        have first : n = 0 := Nat.eq_zero_of_not_pos fun later => skips 0 le_rfl later here
        rw [first]
    · rw [hunt_cons_of_not_syncTwice here, Option.map_eq_some_iff]
      constructor
      · rintro ⟨q, found, rfl⟩
        obtain ⟨n, first, rfl⟩ := (ih q).mp found
        exact ⟨n + 1, (firstSyncTwice_cons_succ here n).mpr first, by omega⟩
      · rintro ⟨n, first, rfl⟩
        cases n with
        | zero => exact absurd first.right.left here
        | succ n => exact ⟨n + 304, (ih _).mpr ⟨n, (firstSyncTwice_cons_succ here n).mp first, rfl⟩, by omega⟩

theorem firstSyncTwice_drop (line : List Bool) (p n : Nat) :
    FirstSyncTwice (line.drop p) 0 n ↔ FirstSyncTwice line p (p + n) := by
  unfold FirstSyncTwice
  simp only [syncTwice_drop]
  constructor
  · rintro ⟨_, both, skips⟩
    refine ⟨Nat.le_add_right p n, both, fun m behind earlier => ?_⟩
    obtain ⟨k, rfl⟩ := Nat.exists_eq_add_of_le behind
    exact skips k (Nat.zero_le _) (by omega)
  · rintro ⟨_, both, skips⟩
    exact ⟨Nat.zero_le _, both, fun m _ earlier => skips (p + m) (by omega) (by omega)⟩

/-- The hunt from a position on ends at the second position of the first pair there (R168, R174). -/
theorem huntFrom_eq_some_iff (line : List Bool) (p q : Nat) :
    huntFrom line p = some q ↔ ∃ n, FirstSyncTwice line p n ∧ q = n + 304 := by
  unfold huntFrom
  rw [Option.map_eq_some_iff]
  constructor
  · rintro ⟨k, found, rfl⟩
    obtain ⟨n, first, rfl⟩ := (hunt_eq_some_iff _ _).mp found
    exact ⟨p + n, (firstSyncTwice_drop line p n).mp first, by omega⟩
  · rintro ⟨n, first, rfl⟩
    have behind : p ≤ n := first.left
    obtain ⟨k, rfl⟩ := Nat.exists_eq_add_of_le behind
    exact ⟨k + 304, (hunt_eq_some_iff _ _).mpr ⟨k, (firstSyncTwice_drop line p k).mpr first, rfl⟩, by omega⟩

section
variable {line : List Bool} {p q : Nat}

theorem searchCommand_of_found (found : huntFrom line p = some q) : searchCommand line p = some .enterMeasure := by
  rw [searchCommand, found]
  rfl

theorem holdoverCommand_of_found (found : huntFrom line p = some q) (bound : Nat) :
    holdoverCommand line p bound = if q < bound then some (.holdoverReturn (frameAt line q)) else none := by
  rw [holdoverCommand, found]

/-! ### Measurements on the line (R169) -/

theorem measureCommand_of_synced (count : Nat)
    (synced : ∀ k : Nat, 1 ≤ k → k ≤ 64 → syncAt line (p + 304 * k) = true) :
    measureCommand line p count = .measurementComplete count :=
  if_pos (List.all_eq_true.mpr fun k listed =>
    synced (k + 1) (Nat.le_add_left 1 k) (Nat.succ_le_of_lt (List.mem_range.mp listed)))

theorem measureCommand_of_missing (count : Nat) {k : Nat} (positive : 1 ≤ k) (few : k ≤ 64)
    (missing : syncAt line (p + 304 * k) = false) : measureCommand line p count = .measureSyncMissing := by
  refine if_neg fun synced => ?_
  have listed : k - 1 ∈ List.range 64 := List.mem_range.mpr (by omega)
  have sync := List.all_eq_true.mp synced (k - 1) listed
  rw [expectedPosition, Nat.sub_add_cancel positive] at sync
  exact absurd sync (Bool.eq_false_iff.mp missing)

end

/-- Settles O14: the worked words are computed, a frame is cut field by field, and the hunt ends at the first pair. -/
theorem workedWordsOfTheManual : Obligations.WorkedWordsOfTheManual := by
  refine ⟨⟨?_, ?_, ?_, by decide, by decide⟩, fun f z sample => sample_slotWord f sample, fun f before after => ?_,
    fun line p q => ⟨?_, fun found bound => ⟨searchCommand_of_found found, fun early => ?_, fun late => ?_⟩,
      fun count => ⟨measureCommand_of_synced count, ?_⟩⟩⟩
  · exact checkByte_of_zeros 16 [] (by decide)
  · exact (checkByte_of_zeros 15 [true] (by decide)).trans (by decide)
  · exact (checkByte_of_zeros 14 [true, false] (by decide)).trans (by decide)
  · exact ⟨frameBits_length f, cut_sync f before after, cut_number f before after, cut_slot f before after,
      cut_lane f before after, cut_check f before after, cut_checked f before after, syncAt_frame f before after,
      frameAt_frame f before after, lockedCommand_frame f before after⟩
  · rw [huntFrom_eq_some_iff]
    exact exists_congr fun n => ⟨fun ⟨⟨behind, both, skips⟩, ends⟩ => ⟨behind, ends, both, skips⟩,
      fun ⟨behind, ends, both, skips⟩ => ⟨⟨behind, both, skips⟩, ends⟩⟩
  · exact (holdoverCommand_of_found found bound).trans (if_pos early)
  · exact (holdoverCommand_of_found found bound).trans (if_neg (Nat.not_lt.mpr late))
  · rintro ⟨k, positive, few, missing⟩
    exact measureCommand_of_missing count positive few missing

end Sys2Proof.Machine

namespace Sys2Proof.Machine

set_option Elab.async false

/-! ### The words of a reply (R183, R187, Table 11-4)

A reply is its data behind a lead word, the tag and the result code, with a check word at its end. -/

/-- The words of the reply that an answer makes. -/
def Answer.replyLength (a : Answer) : Nat := a.data.length + 4

theorem queueLength_reply (p : Parcel) (a : Answer) :
    queueLength (reply p a).lct.queue = queueLength a.state.lct.queue + a.replyLength := by
  simp [reply, Answer.replyLength, queueLength]

/-- A refusal carries the code alone. -/
@[simp] theorem replyLength_refuse (code : Code) (s : State) : (refuse code s).replyLength = 4 := rfl

@[simp] theorem replyLength_okWith (data : List Word) (s : State) : (okWith data s).replyLength = data.length + 4 := rfl

theorem replyLength_withIndex {n a m : Nat} {s : State} {f : Fin n → Answer} (refusal : 4 ≤ m)
    (h : ∀ i, (f i).replyLength ≤ m) : (withIndex n a s f).replyLength ≤ m := by
  unfold withIndex
  split
  · exact h _
  · exact refusal

@[simp] theorem twoWords_length (z : Int) : (twoWords z).length = 2 := rfl

section
variable (body : List Word) (s : State)

/-! #### Chains and the store -/

theorem replyLength_setLiveParameter : (effSetLiveParameter body s).replyLength ≤ 6 :=
  replyLength_withIndex (by decide) fun c => by split <;> simp

theorem replyLength_setStageBypass : (effSetStageBypass body s).replyLength ≤ 5 :=
  replyLength_withIndex (by decide) fun c => by split <;> simp

/-- A run of points or taps carries at most the data of its indices in range. -/
theorem replyLength_withRun {slots size slot first count m : Nat} {f : Fin slots → Fin size → Answer} (refusal : 4 ≤ m)
    (h : ∀ k i, (f k i).replyLength ≤ m) : (withRun slots size slot first count s f).replyLength ≤ m :=
  replyLength_withIndex refusal fun k => replyLength_withIndex refusal fun i => by
    split
    · exact refusal
    · exact h k i

@[simp] theorem readRun_length {n : Nat} (copy : Vector Int n) (first count : Nat) :
    (readRun copy first count).length = count := by simp [readRun]

/-- A run that is read holds at most 48 values (R42). -/
theorem replyLength_readRun {n : Nat} (copy : Vector Int n) (first asked : Nat) (w v : Word) :
    (okWith ([w, v] ++ readRun copy first (clampNat 1 48 asked)) s).replyLength ≤ 54 := by
  obtain ⟨-, most⟩ := clampNat_bounds 1 48 asked (by decide)
  simp only [replyLength_okWith, List.length_append, List.length_cons, List.length_nil, readRun_length]
  omega

/-! #### Scenes and contexts -/

theorem replyLength_writeSection : (effWriteSection body s).replyLength ≤ 4 :=
  replyLength_withIndex (by decide) fun n => replyLength_withIndex (by decide) fun c => by split <;> simp

theorem replyLength_writeStages : (effWriteStages body s).replyLength ≤ 4 :=
  replyLength_withIndex (by decide) fun n => replyLength_withIndex (by decide) fun c =>
    replyLength_withIndex (by decide) fun first => by
      split
      · simp
      · split <;> simp

@[simp] theorem recordWords_length (r : StageRecord) : (recordWords r).length = 10 := by
  obtain ⟨params, bypass, sheddable⟩ := r
  cases params <;> rfl

/-- Five words of the scene and its section, and at most five records (R68). -/
theorem sceneWords_length (scene : Scene) (c : Fin 4) (first : Nat) : (sceneWords scene c first).length ≤ 55 := by
  have records : ((readRecords scene.sections[c].stages first).flatMap recordWords).length =
      (readRecords scene.sections[c].stages first).length * 10 := by simp [List.length_flatMap]
  rw [readRecords_length] at records
  simp only [sceneWords, List.length_append, records, List.length_cons, List.length_nil]
  omega

theorem replyLength_readScene : (effReadScene body s).replyLength ≤ 59 :=
  replyLength_withIndex (by decide) fun n => replyLength_withIndex (by decide) fun c =>
    replyLength_withIndex (by decide) fun first => by
      split
      · simp
      · rename_i scene _
        exact Nat.add_le_add_right (sceneWords_length scene c first.val) 4

theorem replyLength_requestAnswer (r : Request) (s : State) : (requestAnswer r s).replyLength = 4 := by
  unfold requestAnswer
  dsimp only
  split <;> rfl

@[simp] theorem chainWords_length (bypassed : Bool) (f : Fade) (cs : Vector Ctx 2) :
    (chainWords bypassed f cs).length = 13 := by
  unfold chainWords fadeWords
  split <;> rfl

/-! #### Footswitches and routes -/

@[simp] theorem actionWords_length (a : Action) : (actionWords a).length = 2 := by cases a <;> rfl

/-- The number of entries and at most 16 entries of two words (R113). -/
theorem replyLength_readFootswitchLog : (effReadFootswitchLog body s).replyLength ≤ 37 := by
  obtain ⟨-, most⟩ := clampNat_bounds 1 16 (bodyNat body 0) (by decide)
  have taken := List.length_take_le (clampNat 1 16 (bodyNat body 0)) s.tfu.log
  have entries (log : List LogEntry) : (log.flatMap logWords).length = log.length * 2 := by
    simp [List.length_flatMap, logWords]
  simp only [effReadFootswitchLog, replyLength_okWith, List.length_cons, entries]
  omega

/-! #### Mailboxes -/

/-- The words of all seventeen records (Table 11-7). -/
theorem allBoxWords_length (b : Mailboxes) : ((List.finRange 17).flatMap b.words).length = 55 := by
  rfl

theorem replyLength_readMailboxes : (effReadMailboxes body s).replyLength ≤ 62 :=
  replyLength_withIndex (by decide) fun first => by
    have part : ((boxRun first (clampNat 1 17 (bodyNat body 1))).flatMap s.lct.boxes.words).Sublist
        ((List.finRange 17).flatMap s.lct.boxes.words) := (List.filter_sublist).flatMap _
    have short := part.length_le
    rw [allBoxWords_length] at short
    simp only [boxWords, replyLength_okWith, List.length_append, List.length_cons, List.length_nil]
    omega

/-! #### The table -/

/-- No reply is longer than the largest of its kind (Table 11-4). -/
theorem replyLength_kindEffect (k : Kind) : (kindEffect k body s).replyLength ≤ kindLargest k := by
  cases k with
  | writeChainInput => exact replyLength_withIndex (by decide) fun _ => le_rfl
  | setLiveParameter => exact replyLength_setLiveParameter body s
  | setStageBypass => exact replyLength_setStageBypass body s
  | writeCurvePoints => exact replyLength_withRun s (by decide) fun _ _ => le_rfl
  | readCurvePoints => exact replyLength_withRun s (by decide) fun _ _ => replyLength_readRun s _ _ _ _ _
  | writeCabTaps => exact replyLength_withRun s (by decide) fun _ _ => le_rfl
  | readCabTaps => exact replyLength_withRun s (by decide) fun _ _ => replyLength_readRun s _ _ _ _ _
  | writeSceneHeader => exact replyLength_withIndex (by decide) fun _ => le_rfl
  | writeSection => exact replyLength_writeSection body s
  | writeStages => exact replyLength_writeStages body s
  | eraseScene => exact replyLength_withIndex (by decide) fun _ => le_rfl
  | readScene => exact replyLength_readScene body s
  | select => exact replyLength_withIndex (by decide) fun _ => (replyLength_requestAnswer _ _).le
  | call => exact replyLength_withIndex (by decide) fun _ => (replyLength_requestAnswer _ _).le
  | ret => exact (replyLength_requestAnswer _ _).le
  | writeFootswitchLine => exact replyLength_withIndex (by decide) fun _ => by simp [lineRecordWords, kindLargest]
  | readFootswitchLog => exact replyLength_readFootswitchLog body s
  | writeTunerChannel => exact replyLength_withIndex (by decide) fun _ => le_rfl
  | writeRoute => exact replyLength_withIndex (by decide) fun _ => le_rfl
  | readMailboxes => exact replyLength_readMailboxes body s
  | readContextStatus => simp [kindEffect, effReadContextStatus, kindLargest, chains]
  | readPool => simp [kindEffect, effReadPool, kindLargest, holderWords]
  | readRoutes => simp [kindEffect, effReadRoutes, kindLargest, slotRouteWords, routeWords]
  | setTempo | tempoReset | tap | setTunerEngage | setTunerReference | setPanic | showLockOn | showLockOff | permit
  | forceGuardOn | forceGuardOff | supplyCheck | writeLinkFormat | readNotices | writeNoticeMask | readCounters
  | identify | restart => exact le_rfl

end

/-- What a parcel answers, by a common check or by its block, is no longer than its largest reply (R183). -/
theorem replyLength_parcelAnswer (p : Parcel) (s : State) : (parcelAnswer p s).replyLength ≤ p.largestReply := by
  have refusal : 4 ≤ p.largestReply := by
    unfold Parcel.largestReply
    split
    · rename_i k _
      cases k <;> decide
    · exact le_rfl
  unfold parcelAnswer
  split
  · exact refusal
  · rename_i k known
    have largest : p.largestReply = kindLargest k := by
      unfold Parcel.largestReply
      rw [known]
    split
    · exact refusal
    · split
      · exact refusal
      · rw [largest]
        exact replyLength_kindEffect p.body (consumePermit s) k

/-! ### The bound of the outbound queue (R185) -/

/-- The elementary changes of a step keep the bound: a reply joins where there is room for the largest of its kind, and a
notice where the queue is empty. -/
theorem queueOk_stepInvariant : StepInvariant QueueOk where
  core e h := by unfold QueueOk; rw [e.queue]; exact h
  ctxs _ _ h := h
  idle _ _ h := h
  cut _ _ h := h
  spill _ _ h := h
  load {s} f c h := by
    unfold loadChain
    dsimp only
    split
    · exact h
    · exact h
  mem _ _ h := h
  stack _ _ h := h
  taps _ _ h := h
  log _ _ h := h
  hold _ _ h := h
  queue _ short h := short h
  reply {s} p room _ := by
    have fits : queueLength s.lct.queue + p.largestReply ≤ Config.queueWords := of_decide_eq_true room
    have short : (executed p s).replyLength ≤ p.largestReply := replyLength_parcelAnswer p (executing s)
    have stood : (executed p s).state.lct.queue = s.lct.queue := rfl
    unfold QueueOk
    rw [queueLength_reply, stood]
    omega
  period _ h := h
  rate _ _ h := h
  powerOn _ := by
    obtain ⟨-, -, queue, -, -⟩ := resetIsSafe
    exact queue

/-- Settles O9: the bound is kept by every elementary change of a step, so by every step. -/
theorem stepKeepsTheQueueWithin256Words : Obligations.StepKeepsTheQueueWithin256Words :=
  fun _ _ h e => queueOk_stepInvariant.keeps_step (fun _ _ h => h) h e

end Sys2Proof.Machine

namespace Sys2Proof.Machine

set_option Elab.async false

/-! ### Structural indices (R186, R201) -/

/-- The answer tests body word j against n, behind tests of other words: check 4 of R186. -/
inductive TestsIndex (body : List Word) (s : State) (j n : Nat) : Answer → Prop where
  | here (f : Fin n → Answer) : TestsIndex body s j n (withIndex n (bodyNat body j) s f)
  | behind {m i : Nat} {f : Fin m → Answer} (h : ∀ k, TestsIndex body s j n (f k)) :
    TestsIndex body s j n (withIndex m (bodyNat body i) s f)

/-- Whichever index is out of range, the answer is RANGE, and it changes nothing. -/
theorem TestsIndex.refused {body : List Word} {s : State} {j n : Nat} {a : Answer} (tests : TestsIndex body s j n a)
    (out : n ≤ bodyNat body j) : a = refuse .range s := by
  induction tests with
  | here f => exact withIndex_ge n _ s f out
  | behind _ ih => exact withIndex_refused fun k _ => ih k

/-- Settles O16: the block tests the index, first or behind the indices before it, and what precedes the block passes. -/
theorem badIndicesAreRefused : Obligations.BadIndicesAreRefused := by
  intro k j n listed tag body s clear adm len out
  have tests (t : State) : TestsIndex body t j n (kindEffect k body t) := by
    obtain first | second | third : j = 0 ∨ j = 1 ∨ j = 2 := by
      simp only [List.mem_cons, Prod.mk.injEq, List.not_mem_nil, or_false] at listed
      omega
    · subst first
      simp at listed
      rcases listed with ⟨rfl, rfl⟩ | ⟨rfl, rfl⟩ | ⟨rfl, rfl⟩ | ⟨rfl, rfl⟩ | ⟨rfl, rfl⟩ | ⟨rfl, rfl⟩ | ⟨rfl, rfl⟩ |
        ⟨rfl, rfl⟩ | ⟨rfl, rfl⟩ | ⟨rfl, rfl⟩ | ⟨rfl, rfl⟩ | ⟨rfl, rfl⟩ | ⟨rfl, rfl⟩ | ⟨rfl, rfl⟩ | ⟨rfl, rfl⟩ |
        ⟨rfl, rfl⟩ | ⟨rfl, rfl⟩ | ⟨rfl, rfl⟩
      all_goals exact .here _
    · subst second
      simp at listed
      rcases listed with ⟨rfl, rfl⟩ | ⟨rfl, rfl⟩ | ⟨rfl, rfl⟩ | ⟨rfl, rfl⟩ | ⟨rfl, rfl⟩ | ⟨rfl, rfl⟩ | ⟨rfl, rfl⟩
      all_goals exact .behind fun _ => .here _
    · subst third
      simp at listed
      rcases listed with ⟨rfl, rfl⟩ | ⟨rfl, rfl⟩
      all_goals exact .behind fun _ => .behind fun _ => .here _
  rw [exec_ofParcel, arrive_refused_of_admitted clear len adm fun t _ => (tests t).refused out]

/-! ### Identify (R196) -/

theorem identify_accepts_iff (body : List Word) : kindAccepts .identify body.length = true ↔ body = [] := by
  simp [kindAccepts]

/-- Settles O22: an unguarded kind is admitted in every state, and its block answers constants. -/
theorem identifyAnswersThreeFixedValues : Obligations.IdentifyAnswersThreeFixedValues := by
  refine ⟨rfl, fun tag body s clear => ⟨?_, fun filled => ?_⟩⟩
  · rintro rfl
    exact exec_read clear rfl rfl rfl
  · have len : kindAccepts .identify body.length = false :=
      Bool.eq_false_iff.mpr fun accepted => filled ((identify_accepts_iff body).mp accepted)
    exact congrArg Host.Outcome.next (arrive_refused_by_check clear (parcelAnswer_badLength len))

/-! ### A good parcel as its words carry it (R181, R200) -/

/-- A kind and its code determine each other (R201). -/
theorem code_of_ofCode : ∀ code : BitVec 6, ∀ k ∈ Kind.ofCode code, Kind.code k = code := by decide

/-- A good parcel reaches dispatch after the events that are due, whether its kind is known or not (R183, R186). -/
theorem exec_arrives (p : Parcel) (s : State) :
    exec (Instr.ofParcel p.kind p.tag p.body) s = .next (arriveParcel p (settle s)) := by
  obtain ⟨code, tag, body⟩ := p
  cases known : Kind.ofCode code with
  | some k =>
    obtain rfl := code_of_ofCode code k known
    exact exec_ofParcel k tag body s
  | none =>
    unfold Instr.ofParcel
    dsimp only
    rw [known]
    rfl

theorem leadKind_leadWord (kind : BitVec 6) (length : Nat) : leadKind (leadWord kind length) = kind :=
  (BitVec.extractLsb'_append_eq_of_le (le_refl 6)).trans BitVec.extractLsb'_append_eq_right

/-- The words of a parcel are read back as its kind, tag and body (R181, R200). -/
theorem readParcel_parcelWords (kind : BitVec 6) (tag : Word) (body : List Word) :
    readParcel (parcelWords kind tag body) = some (kind, tag, body) := by
  refine (if_pos (wordSum_parcelWords kind tag body)).trans ?_
  rw [leadKind_leadWord]
  exact congrArg (fun b => some (kind, tag, b)) List.dropLast_concat

/-- Words whose sum is not 0 are no good parcel (R181). -/
theorem readParcel_of_bad_sum {words : List Word} (bad : wordSum words ≠ 0) : readParcel words = none := by
  unfold readParcel
  split
  · exact if_neg bad
  · rfl

/-- A parcel command is that of the kind, tag and body that it carries (R201). -/
theorem ofParcel_of_toParcel {i : Instr} {kind : BitVec 6} {tag : Word} {body : List Word} (wf : i.wf = true)
    (h : i.toParcel = some (kind, tag, body)) : Instr.ofParcel kind tag body = i := by
  cases i with
  | unknownKind code t b =>
    cases h
    have unknown : unknownCode kind = true := (Bool.and_eq_true_iff.mp wf).1
    unfold Instr.ofParcel
    rw [ofCode_of_unknown kind unknown]
  | writeChainInput _ _ | setLiveParameter _ _ | setStageBypass _ _ | writeCurvePoints _ _ | readCurvePoints _ _
  | writeCabTaps _ _ | readCabTaps _ _ | readPool _ _ | writeSceneHeader _ _ | writeSection _ _ | writeStages _ _
  | eraseScene _ _ | readScene _ _ | select _ _ | call _ _ | ret _ _ | readContextStatus _ _ | setTempo _ _
  | tempoReset _ _ | tap _ _ | writeFootswitchLine _ _ | readFootswitchLog _ _ | writeTunerChannel _ _
  | setTunerEngage _ _ | setTunerReference _ _ | writeRoute _ _ | readRoutes _ _ | setPanic _ _ | showLockOn _ _
  | showLockOff _ _ | permit _ _ | forceGuardOn _ _ | forceGuardOff _ _ | supplyCheck _ _ | writeLinkFormat _ _
  | readMailboxes _ _ | readNotices _ _ | writeNoticeMask _ _ | readCounters _ _ | identify _ _ | restart _ _ =>
    cases h
    rfl
  | powerOn | parcelComplete | notice | enterMeasure | measureSyncMissing | measurementComplete _ | frameReceived _
  | missingSync | enterHoldover | holdoverPeriod | holdoverReturn _ | holdoverExpiry | rateDeparture _ | idleFrame
  | tempoResetTaken | beat | subdivision | governorEvaluation | loadStart | loadComplete _ _ | switch | dipHalfway _
  | fadeEnd _ | pendingRequestStart | tailEnd _ _ | spillLimit _ _ | cutComplete _ _ | rampEnd _ | tunerSilence _
  | msTick _ | hold _ | measurementStart | supplyReading _ _ => cases h

/-- The lane words of a parcel command are those of a parcel, and the command is the parcel's (R200, R201). -/
theorem laneWords_parcel {i : Instr} {words : List Word} (wf : i.wf = true) (h : i.laneWords = some words) :
    ∃ p : Parcel, words = parcelWords p.kind p.tag p.body ∧ Instr.ofParcel p.kind p.tag p.body = i := by
  obtain ⟨⟨kind, tag, body⟩, carried, rfl⟩ := Option.map_eq_some_iff.mp h
  exact ⟨⟨kind, tag, body⟩, rfl, ofParcel_of_toParcel wf carried⟩

/-! ### Notices (R191, R192) -/

theorem exec_notice (s : State) : exec .notice s = .next (noticeIfDue s) := rfl

theorem noticeDue_iff (s : State) : noticeDue s = true ↔ s.lct.queue = [] ∧ s.lct.notices &&& s.lct.mask ≠ 0 := by
  unfold noticeDue noticeClasses
  rw [Bool.and_eq_true, List.isEmpty_iff, decide_eq_true_eq]

/-- A notice stands alone in the queue that it finds empty. -/
theorem takeNotice_of_empty {s : State} (empty : s.lct.queue = []) : takeNotice s = { s with lct := { s.lct with
    queue := [parcelWords 63 0 [(s.lct.notices &&& s.lct.mask).setWidth 16]]
    headSent := false
    notices := s.lct.notices &&& ~~~s.lct.mask } } := by
  rw [← classWord_eq_setWidth]
  unfold takeNotice enqueue noticeClasses noticeKind
  dsimp only
  rw [empty]
  rfl

/-! ### Complete parcels (R181, R183) -/

/-- The parcel that has arrived is taken from the assembler. -/
def noArrived (s : State) : State := { s with lct := { s.lct with arrived := none } }

/-- No event but the parcel's own looks at the parcel that has arrived. -/
theorem due_noArrived (e : Event) (s : State) (other : e ≠ .parcelComplete) : due e (noArrived s) = due e s := by
  cases e with
  | parcelComplete => exact absurd rfl other
  | _ => rfl

/-- The parcel that has arrived is gone, and counted as one with a bad sum (R181, R194). -/
def laneChecked (s : State) : State := setCounters (fun n => { n with laneChecks := countUp n.laneChecks }) (noArrived s)

theorem noticeIfDue_laneChecked (s : State) : noticeIfDue (laneChecked s) = laneChecked (noticeIfDue s) := by
  cases falls : noticeDue s with
  | true => rw [noticeIfDue_of_due s falls, noticeIfDue_of_due (laneChecked s) falls]; rfl
  | false => rw [noticeIfDue_of_not_due s falls, noticeIfDue_of_not_due (laneChecked s) falls]

section
variable {s : State} {words : List Word}

/-- A good parcel reaches dispatch in its turn where nothing else is due (R181, R183). -/
theorem exec_parcelComplete_good (p : Parcel) (arrived : s.lct.arrived = some (parcelWords p.kind p.tag p.body))
    (calm : quiet (noArrived s) = true) : exec .parcelComplete s = .next (arriveParcel p (noArrived s)) := by
  have read := readParcel_parcelWords p.kind p.tag p.body
  have good : goodParcelArrived s = true := by
    unfold goodParcelArrived
    rw [arrived, Option.any_some, read]
    rfl
  have before : ∀ e ∈ settleOrder.takeWhile (· ≠ Event.parcelComplete), due e s = false := fun e mem => by
    have other : e ≠ .parcelComplete := by simpa using List.mem_takeWhile_imp mem
    rw [← due_noArrived e s other]
    exact not_due_of_quiet _ calm e (List.takeWhile_subset _ mem)
  have falls : due .parcelComplete s = true := by
    show s.lct.arrived.isSome = true
    rw [arrived]
    rfl
  have taken : takeParcelComplete s = arriveParcel p (noArrived s) := by
    unfold takeParcelComplete
    rw [arrived]
    dsimp only
    rw [read]
    rfl
  calc exec .parcelComplete s
      = .next (inTurn .parcelComplete s) := congrArg Host.Outcome.next (if_pos good)
    _ = .next (arriveParcel p (noArrived s)) := by rw [inTurn_of_due _ s before falls, ← taken]; rfl

/-- A parcel whose sum is not 0 is discarded, with LANE behind a notice that is due (R181, R192). -/
theorem exec_parcelComplete_bad (arrived : s.lct.arrived = some words) (bad : wordSum words ≠ 0) :
    exec .parcelComplete s = .next (raise .lane (laneChecked s)) := by
  have none := readParcel_of_bad_sum bad
  have noGood : goodParcelArrived s = false := by
    unfold goodParcelArrived
    rw [arrived, Option.any_some, none]
    rfl
  have taken : takeParcelComplete s = raise .lane (laneChecked s) := by
    unfold takeParcelComplete
    rw [arrived]
    dsimp only
    rw [none]
    rfl
  have falls : due .parcelComplete s = true := by
    show s.lct.arrived.isSome = true
    rw [arrived]
    rfl
  calc exec .parcelComplete s
      = .next (attempt .parcelComplete s) := congrArg Host.Outcome.next (if_neg (by rw [noGood]; exact Bool.false_ne_true))
    _ = .next (raise .lane (laneChecked s)) := by rw [attempt_of_due _ s falls, ← taken]; rfl

end

/-- Settles O19: a parcel's words are read back, and what is due is what the queue and the pending set say. -/
theorem completeParcelsAreCheckedAndNoticesQueued : Obligations.CompleteParcelsAreCheckedAndNoticesQueued := by
  refine ⟨fun i words s wf carried arrived calm => ?_, fun words s arrived bad => ?_, fun s empty pending => ?_,
    fun s none => ?_, rfl, fun k s => ⟨noticeIfDue s, rfl, rfl⟩⟩
  · obtain ⟨p, rfl, rfl⟩ := laneWords_parcel wf carried
    refine ⟨_, exec_parcelComplete_good p arrived calm, ?_⟩
    have settled : settle (noArrived s) = noArrived s := settle_of_quiet _ calm
    rw [← settled]
    exact exec_arrives p (noArrived s)
  · have kept : (noticeIfDue s).lct.counters = s.lct.counters := (sameDesk_raise .lane s).counters
    refine ⟨noticeIfDue s, rfl, ?_⟩
    rw [exec_parcelComplete_bad arrived bad, raise, noticeIfDue_laneChecked, ← kept]
    rfl
  · rw [exec_notice, noticeIfDue_of_due s ((noticeDue_iff s).mpr ⟨empty, pending⟩), takeNotice_of_empty empty]
  · have notDue : noticeDue s = false := Bool.eq_false_iff.mpr fun falls => by
      obtain ⟨empty, pending⟩ := (noticeDue_iff s).mp falls
      exact none.elim (fun queued => queued empty) pending
    rw [exec_notice, noticeIfDue_of_not_due s notDue]

end Sys2Proof.Machine

namespace Sys2Proof.Machine

set_option Elab.async false

/-! ### The hold as a parcel executes (R184) -/

section
variable (s : State)

theorem hold_withIndex (n a : Nat) (f : Fin n → Answer) (h : ∀ i, (f i).state.lct.hold = s.lct.hold) :
    (withIndex n a s f).state.lct.hold = s.lct.hold := by
  unfold withIndex
  split
  · exact h _
  · rfl

theorem hold_withRun (slots size slot first count : Nat) (f : Fin slots → Fin size → Answer)
    (h : ∀ k i, (f k i).state.lct.hold = s.lct.hold) :
    (withRun slots size slot first count s f).state.lct.hold = s.lct.hold :=
  hold_withIndex s _ _ _ fun k => hold_withIndex s _ _ _ fun i => by
    split
    · rfl
    · exact h k i

theorem hold_writeSection (body : List Word) : (effWriteSection body s).state.lct.hold = s.lct.hold :=
  hold_withIndex s _ _ _ fun n => hold_withIndex s _ _ _ fun c => by split <;> rfl

theorem hold_writeStages (body : List Word) : (effWriteStages body s).state.lct.hold = s.lct.hold :=
  hold_withIndex s _ _ _ fun n => hold_withIndex s _ _ _ fun c => hold_withIndex s _ _ _ fun first => by
    split
    · rfl
    · split <;> rfl

theorem hold_restart (body : List Word) : (kindEffect .restart body s).state.lct.hold = s.lct.hold := by
  have answer : kindEffect .restart body s = okWith [] (restarted (noNotices s)) := effRestart_eq s
  rw [answer, okWith_state, (restarted_leaves (noNotices s)).desk.hold]
  rfl

/-- No kind's effect touches the parcels that wait; of the kinds that no guard holds back, what the show lock protects
says so. -/
theorem kindEffect_hold (k : Kind) (body : List Word) : (kindEffect k body s).state.lct.hold = s.lct.hold := by
  by_cases free : kindGuarded k = false ∧ k ≠ .showLockOn ∧ k ≠ .permit
  · obtain ⟨unguarded, on, permit⟩ := free
    exact congrArg Vault.hold (vault_kindEffect s k body unguarded on permit)
  · cases k with
    | writeChainInput => exact hold_withIndex s _ _ _ fun _ => rfl
    | writeCurvePoints => exact hold_withRun s _ _ _ _ _ _ fun _ _ => rfl
    | writeCabTaps => exact hold_withRun s _ _ _ _ _ _ fun _ _ => rfl
    | writeSceneHeader => exact hold_withIndex s _ _ _ fun _ => rfl
    | writeSection => exact hold_writeSection s body
    | writeStages => exact hold_writeStages s body
    | eraseScene => exact hold_withIndex s _ _ _ fun _ => rfl
    | writeFootswitchLine => exact hold_withIndex s _ _ _ fun _ => rfl
    | writeTunerChannel => exact hold_withIndex s _ _ _ fun _ => congrArg Vault.hold (vault_reportChannels _ _)
    | writeRoute => exact hold_withIndex s _ _ _ fun _ => rfl
    | restart => exact hold_restart s body
    | writeLinkFormat | showLockOn | showLockOff | permit => rfl
    | _ => exact absurd (by decide) free

end

theorem parcelAnswer_hold (p : Parcel) (s : State) : (parcelAnswer p s).state.lct.hold = s.lct.hold := by
  unfold parcelAnswer
  split
  · rfl
  · split
    · rfl
    · split
      · rfl
      · exact kindEffect_hold (consumePermit s) _ _

theorem executeParcel_hold (p : Parcel) (s : State) : (executeParcel p s).lct.hold = s.lct.hold :=
  parcelAnswer_hold p (executing s)

/-! ### Parcels that wait (R183, R184) -/

/-- The state with other parcels in the hold. -/
def withHold (hold : List Parcel) (s : State) : State := { s with lct := { s.lct with hold := hold } }

/-- The count of a parcel that a full hold loses (R194). -/
def overran (s : State) : State := setCounters (fun n => { n with overruns := countUp n.overruns }) s

theorem hasRoom_iff (p : Parcel) (s : State) :
    hasRoom p s = true ↔ queueLength s.lct.queue + p.largestReply ≤ 256 := decide_eq_true_iff

/-- A parcel executes at once where none waits and there is room for its reply (R183). -/
theorem arriveParcel_executes {p : Parcel} {s : State} (none : s.lct.hold = []) (room : hasRoom p s = true) :
    arriveParcel p s = executeParcel p s := if_pos (by rw [none, room]; rfl)

section
variable {p : Parcel} {s : State} (waits : s.lct.hold ≠ [] ∨ hasRoom p s = false)
include waits

theorem cannot_execute : ¬ (s.lct.hold.isEmpty && hasRoom p s) = true := by
  rw [Bool.and_eq_true, List.isEmpty_iff]
  rintro ⟨none, room⟩
  rcases waits with some | full
  · exact some none
  · exact Bool.false_ne_true (full.symm.trans room)

theorem arriveParcel_joins (short : s.lct.hold.length < 2) : arriveParcel p s = withHold (s.lct.hold ++ [p]) s :=
  (if_neg (cannot_execute waits)).trans (if_pos short)

theorem arriveParcel_discards (long : 2 ≤ s.lct.hold.length) : arriveParcel p s = raise .lane (overran s) :=
  (if_neg (cannot_execute waits)).trans (if_neg (Nat.not_lt.mpr long))

end

section
variable {fuel : Nat} {s : State} {p : Parcel} {rest : List Parcel}

theorem drainHold_of_none (none : s.lct.hold = []) : drainHold fuel s = s := by
  cases fuel with
  | zero => rfl
  | succ fuel =>
    unfold drainHold
    rw [none]

theorem drainHold_of_no_room (held : s.lct.hold = p :: rest) (full : hasRoom p s = false) : drainHold fuel s = s := by
  cases fuel with
  | zero => rfl
  | succ fuel =>
    unfold drainHold
    rw [held]
    dsimp only
    rw [full]
    rfl

theorem drainHold_of_room (held : s.lct.hold = p :: rest) (room : hasRoom p s = true) :
    drainHold (fuel + 1) s = drainHold fuel (executeParcel p (withHold rest s)) := by
  rw [drainHold.eq_def]
  dsimp only
  rw [held]
  dsimp only
  rw [room]
  rfl

end

/-! ### The word that leaves (R185) -/

/-- The oldest word of the queue of s has left, or the idle word of an empty one: the word w, and the state t after it. -/
structure LaneWordTaken (s : State) (w : Word) (t : State) : Prop where
  word : w = s.lct.queue.flatten.headD 0
  rest : t.lct.queue.flatten = s.lct.queue.flatten.drop 1
  filled : [] ∉ t.lct.queue
  only : t = { s with lct := { s.lct with queue := t.lct.queue, headSent := t.lct.headSent } }
  idle : s.lct.queue = [] → t.lct.headSent = s.lct.headSent
  begun : ∀ first rest, s.lct.queue = first :: rest → (t.lct.headSent = true ↔ 2 ≤ first.length)

/-- A queue that holds no empty parcel gives up its oldest word, and keeps no empty parcel. -/
theorem takeLaneWord_taken {s : State} (filled : [] ∉ s.lct.queue) :
    LaneWordTaken s (takeLaneWord s).1 (takeLaneWord s).2 := by
  unfold takeLaneWord
  split
  · rename_i empty
    exact ⟨by simp [empty], by simp [empty], filled, rfl, fun _ => rfl, fun _ _ queued => by simp [empty] at queued⟩
  · rename_i queued
    simp [queued] at filled
  · rename_i queued
    rw [queued] at filled
    refine ⟨by simp [queued], by simp [queued], fun mem => filled (List.mem_cons_of_mem _ mem), rfl,
      fun empty => by simp [empty] at queued, fun _ _ is => ?_⟩
    obtain ⟨rfl, -⟩ := List.cons.inj (queued.symm.trans is)
    simp
  · rename_i queued
    rw [queued] at filled
    refine ⟨by simp [queued], by simp [queued], by simpa using filled, rfl,
      fun empty => by simp [empty] at queued, fun _ _ is => ?_⟩
    obtain ⟨rfl, -⟩ := List.cons.inj (queued.symm.trans is)
    simp

/-- The notice that joins an empty queue is no empty parcel. -/
theorem noticeIfDue_filled {s : State} (filled : [] ∉ s.lct.queue) : [] ∉ (noticeIfDue s).lct.queue := by
  cases falls : noticeDue s with
  | true =>
    obtain ⟨empty, -⟩ := (noticeDue_iff s).mp falls
    rw [noticeIfDue_of_due s falls, takeNotice_of_empty empty]
    simp [parcelWords]
  | false =>
    rw [noticeIfDue_of_not_due s falls]
    exact filled

/-- A held parcel that there is room for executes as a parcel of its kind that nothing waits before (R184). -/
theorem exec_of_held {p : Parcel} {s : State} (room : hasRoom p s = true) (calm : quiet (withHold [] s) = true) :
    exec (Instr.ofParcel p.kind p.tag p.body) (withHold [] s) = .next (executeParcel p (withHold [] s)) := by
  rw [exec_arrives, settle_of_quiet _ calm, arriveParcel_executes (s := withHold [] s) rfl room]

/-- Settles O18: a parcel that must wait joins or is lost, and the two that can wait are tested in turn as a word leaves. -/
theorem waitingParcelsJoinTheHoldOrAreDiscarded : Obligations.WaitingParcelsJoinTheHoldOrAreDiscarded := by
  refine ⟨fun k tag body s calm waits => ?_, fun s filled => ?_⟩
  · have cannot : s.lct.hold ≠ [] ∨ hasRoom { kind := Kind.code k, tag := tag, body := body } s = false :=
      waits.imp_right fun full => Bool.eq_false_iff.mpr fun room => by
        have fits := (hasRoom_iff _ s).mp room
        unfold Parcel.largestReply at fits
        rw [ofCode_code] at fits
        exact Nat.not_lt.mpr fits full
    rw [exec_ofParcel, settle_of_quiet s calm]
    refine ⟨fun short => by rw [arriveParcel_joins cannot short]; rfl, fun long => ?_⟩
    rw [arriveParcel_discards cannot long, raise_of_not_due (overran s) .lane (noticeDue_of_quiet calm)]
    rfl
  · have taken := takeLaneWord_taken (noticeIfDue_filled filled)
    have hold : (takeLaneWord (noticeIfDue s)).2.lct.hold = s.lct.hold := by
      rw [taken.only]
      exact (sameDesk_raise .lane s).hold
    have out : (laneOut s).2 = drainHold 2 (takeLaneWord (noticeIfDue s)).2 := rfl
    refine ⟨noticeIfDue s, (takeLaneWord (noticeIfDue s)).2, rfl, taken.word, taken.rest, taken.filled, taken.only,
      taken.idle, taken.begun, ?_⟩
    rw [out]
    generalize (takeLaneWord (noticeIfDue s)).2 = u at *
    intro runs fits
    have full {p : Parcel} {a : State} (no : ¬ fits p a) : hasRoom p a = false :=
      Bool.eq_false_iff.mpr fun room => no ((hasRoom_iff p a).mp room)
    have ran {p : Parcel} {rest : List Parcel} {a : State} (room : fits p a) :
        runs p rest a (executeParcel p (withHold rest a)) := by
      refine ⟨rfl, fun calm none => ?_⟩
      subst none
      exact exec_of_held ((hasRoom_iff p a).mpr room) calm
    refine ⟨fun none => drainHold_of_none (hold.trans none), fun p rest held =>
      ⟨fun no => drainHold_of_no_room (hold.trans held) (full no), fun room =>
        ⟨executeParcel p (withHold rest u), ran room, ?_⟩⟩⟩
    rw [drainHold_of_room (hold.trans held) ((hasRoom_iff p u).mpr room)]
    have left : (executeParcel p (withHold rest u)).lct.hold = rest := executeParcel_hold p _
    generalize executeParcel p (withHold rest u) = v at *
    refine ⟨fun none => drainHold_of_none (left.trans none), fun q more two =>
      ⟨fun no => drainHold_of_no_room (left.trans two) (full no), fun next => ?_⟩⟩
    rw [drainHold_of_room (left.trans two) ((hasRoom_iff q v).mpr next)]
    exact ran next

end Sys2Proof.Machine

namespace Sys2Proof.Machine

/-! ### Parcel commands on the lane (R200, R201) -/

/-- Settles O11: the words of a parcel give back its kind, tag and body, and these give back the command. -/
theorem parcelWordsReadBack : Obligations.ParcelWordsReadBack := by
  intro i words wf carried
  obtain ⟨p, rfl, command⟩ := laneWords_parcel wf carried
  unfold Instr.ofLaneWords
  rw [readParcel_parcelWords, Option.map_some, command]

/-! ### Records as ten words store them (R202, Table 11-6) -/

theorem clampNat_zero (hi a : Nat) : clampNat 0 hi a = min hi a := Nat.zero_max _

/-- A code above the highest is taken as the highest (R201). -/
theorem divisionOf_eq (n : Nat) : divisionOf n = if n = 0 then .half else if n = 1 then .quarter
    else if n = 2 then .dottedEighth else if n = 3 then .quarterTriplet else if n = 4 then .eighth else .sixteenth := by
  exact_mod_cast divisionOf_toNat n (Int.natCast_nonneg n)

theorem coefficientOf_isSample (high : Word) (low : BitVec 8) : IsSample (coefficientOf high low) :=
  ⟨BitVec.le_toInt _, Int.le_sub_one_of_lt (BitVec.toInt_lt)⟩

/-- The kind code stands in bits 2 to 0 of word 0. -/
theorem kindBits_toNat (w : Word) : (w.extractLsb' 0 3).toNat = w.toNat % 8 := by simp

/-- Codes 6 and 7 are both DELAY. -/
theorem paramsOf_delay {kind : Nat} (code : 6 ≤ kind) (r : List Word) (spill : Bool) :
    paramsOf kind r spill = paramsOf 6 r spill := by
  unfold paramsOf
  split
  case h_7 => rfl
  all_goals omega

/-- What is stored lies in the ranges of its kind: every clamped parameter by its clamp, every other by its width. -/
theorem paramsOf_inRange (kind : Nat) (r : List Word) (spill : Bool) : (paramsOf kind r spill).inRange := by
  have one (j : Nat) : bodyNat r j ≤ 65535 := Nat.le_of_lt_succ (bodyWord r j).isLt
  unfold paramsOf
  split
  case h_1 => exact (clampNat_bounds 0 32767 _ (by omega)).2
  case h_2 => exact ⟨(clampNat_bounds 0 8388607 _ (by omega)).2, (clampNat_bounds 0 8388607 _ (by omega)).2, one 5⟩
  case h_3 =>
    exact ⟨coefficientOf_isSample _ _, coefficientOf_isSample _ _, coefficientOf_isSample _ _,
      coefficientOf_isSample _ _, coefficientOf_isSample _ _⟩
  case h_4 => exact ⟨(clampNat_bounds 0 256 _ (by omega)).2, clampNat_bounds 480 96000 _ (by omega)⟩
  case h_5 =>
    obtain ⟨low, high⟩ := clampNat_bounds 256 16384 (bodyNat r 1) (by omega)
    exact ⟨low, high, one 4⟩
  case h_6 => exact clampNat_bounds 1 128 _ (by omega)
  case h_7 =>
    simp only [StageParams.inRange, DelayParams.inRange, clampNat]
    omega

/-- Each kind takes its parameters from the words of Table 11-6. -/
theorem recordOf_stored (words : List Word) : RecordStored words (recordOf words) := by
  have kind {k : Nat} (code : (words.getD 0 0).toNat % 8 = k) :
      (recordOf words).params = paramsOf k words ((words.getD 0 0).getLsbD 5) :=
    congrArg (fun c => paramsOf c words ((words.getD 0 0).getLsbD 5)) ((kindBits_toNat _).trans code)
  refine ⟨rfl, rfl, fun code => ?trim, fun code => ?gate, fun code => ?filter, fun code => ?tremolo,
    fun code => ?shaper, fun code => ?cab, fun code => ?delay⟩
  case trim => rw [kind code, paramsOf, clampNat_zero]; rfl
  case gate => rw [kind code, paramsOf, clampNat_zero, clampNat_zero, bodyTwo_toNat, bodyTwo_toNat]; rfl
  case filter =>
    rw [kind code, paramsOf]
    simp only [coefficientOf_eq, highByte_toNat, lowByte_toNat]
    rfl
  case tremolo => rw [kind code, paramsOf, clampNat_zero, bodyTwo_toNat, divisionOf_eq]; rfl
  case shaper =>
    rw [kind code]
    exact ⟨clampFin 15 (bodyNat words 2), clampFin 3 (bodyNat words 3), Nat.min_comm _ _, Nat.min_comm _ _, rfl⟩
  case cab =>
    rw [kind code]
    exact ⟨clampFin 7 (bodyNat words 1), Nat.min_comm _ _, rfl⟩
  case delay =>
    rw [kind rfl, paramsOf_delay code]
    simp only [paramsOf, clampNat_zero, bodyTwo_toNat, divisionOf_eq]
    rfl

/-! ### Records as their words are sent (R202, Table 11-6) -/

theorem bytes_word (a b : BitVec 8) : (a ++ b : Word) = word (256 * a.toNat + b.toNat) := by
  apply eq_word_of_toNat
  rw [BitVec.toNat_append, ← Nat.shiftLeft_add_eq_or_of_lt b.isLt, Nat.shiftLeft_eq, Nat.mul_comm]

theorem word_rateMode (m : RateMode) : word m.code = if m = .free then 0 else 1 := by cases m <;> rfl

theorem word_delayMode (m : DelayMode) : word m.code = if m = .fixed then 0 else 1 := by cases m <;> rfl

/-- The words of a record by the table, kind by kind. -/
theorem recordWords_sent (r : StageRecord) : RecordSent r (recordWords r) := by
  obtain ⟨params, bypass, sheddable⟩ := r
  cases params with
  | trim g => rfl
  | gate lo lcl h => simp only [recordWords, paramWords, twoWords_nat]; rfl
  | filter b0 b1 b2 a1 a2 =>
    simp only [recordWords, paramWords, coefficientHigh_eq, bytes_word, coefficientLow_toNat]
    rfl
  | tremolo depth mode period division =>
    simp only [recordWords, paramWords, twoWords_nat, word_rateMode]
    cases division <;> rfl
  | shaper drive curve oversampling level => rfl
  | cab slot taps => rfl
  | delay p =>
    have spillBit : 6 + bitIf bypass 8 + bitIf sheddable 16 + bitIf p.spill 32 =
        (if p.spill then 38 else 6) + bitIf bypass 8 + bitIf sheddable 16 := by
      cases p.spill with
      | false => rfl
      | true =>
        show 6 + bitIf bypass 8 + bitIf sheddable 16 + 32 = 38 + bitIf bypass 8 + bitIf sheddable 16
        omega
    obtain ⟨maxLength, mode, fixedLength, division, feedback, wet, spill, spillLimit⟩ := p
    simp only [recordWords, paramWords, twoWords_nat, word_delayMode, StageParams.kind, StageParams.spill, spillBit]
    cases division <;> rfl

/-! ### Records read back from their words (R202) -/

/-- The fields of word 0 do not meet. -/
theorem firstWord_fields : ∀ kind < 8, ∀ bypass sheddable spill : Bool,
    let w := word (kind + bitIf bypass 8 + bitIf sheddable 16 + bitIf spill 32)
    (w.extractLsb' 0 3).toNat = kind ∧ w.getLsbD 3 = bypass ∧ w.getLsbD 4 = sheddable ∧ w.getLsbD 5 = spill := by
  decide

theorem StageParams.kind_lt (p : StageParams) : p.kind < 8 := by cases p <;> simp [StageParams.kind]

theorem clampNat_word {lo hi n : Nat} (small : hi < 65536) (low : lo ≤ n) (high : n ≤ hi) :
    clampNat lo hi (word n).toNat = n := by
  rw [word_toNat n (by omega), clampNat_of_range lo hi n low high]

theorem bodyTwo_twoWords {n : Nat} (small : n < 65536 * 65536) : (bodyTwo (twoWords n) 0).toNat = n := by
  rw [twoWords_nat, bodyTwo_toNat]
  show 65536 * (word (n / 65536)).toNat + (word (n % 65536)).toNat = n
  rw [word_toNat _ (by omega), word_toNat _ (by omega)]
  omega

theorem clampNat_twoWords {lo hi n : Nat} (small : hi < 65536 * 65536) (low : lo ≤ n) (high : n ≤ hi) :
    clampNat lo hi (bodyTwo (twoWords n) 0).toNat = n := by
  rw [bodyTwo_twoWords (by omega), clampNat_of_range lo hi n low high]

theorem clampFin_word {n : Nat} (small : n < 65536) (i : Fin (n + 1)) : clampFin n (word i.val).toNat = i := by
  apply Fin.ext
  rw [word_toNat _ (by omega), clampFin_val]
  omega

theorem rateModeOf_word (m : RateMode) : rateModeOf (word m.code).toNat = m := by cases m <;> rfl

theorem delayModeOf_word (m : DelayMode) : delayModeOf (word m.code).toNat = m := by cases m <;> rfl

theorem divisionOf_word (d : Division) : divisionOf (word d.code).toNat = d := by cases d <;> rfl

theorem highByte_append (a b : BitVec 8) : highByte (a ++ b) = a := BitVec.extractLsb'_append_eq_left

theorem lowByte_append (a b : BitVec 8) : lowByte (a ++ b) = b := BitVec.extractLsb'_append_eq_right

theorem coefficientOf_parts {z : Int} (sample : IsSample z) :
    coefficientOf (coefficientHigh z) (coefficientLow z) = z := by
  obtain ⟨low, high⟩ := sample
  unfold sampleMin at low
  unfold sampleMax at high
  have whole : (coefficientHigh z ++ coefficientLow z : BitVec 24) = BitVec.ofInt 24 z :=
    BitVec.extractLsb'_append_extractLsb' (w := 16) (len := 8)
  unfold coefficientOf
  rw [whole]
  exact BitVec.toInt_ofInt_eq_self (by omega) (by omega) (by omega)

/-- Parameters in range are read back from the words of their kind, whatever stands in word 0. -/
theorem paramsOf_paramWords {p : StageParams} (range : p.inRange) (head : Word) :
    paramsOf p.kind (head :: paramWords p) p.spill = p := by
  cases p with
  | trim g => exact congrArg StageParams.trim (clampNat_word (by omega) (Nat.zero_le g) range)
  | gate lo lcl h =>
    obtain ⟨openHigh, closeHigh, holdHigh⟩ := range
    exact (StageParams.gate.injEq ..).mpr ⟨clampNat_twoWords (by omega) (Nat.zero_le lo) openHigh,
      clampNat_twoWords (by omega) (Nat.zero_le lcl) closeHigh, word_toNat h (by omega)⟩
  | filter b0 b1 b2 a1 a2 =>
    obtain ⟨s0, s1, s2, s3, s4⟩ := range
    have high {z : Int} (sample : IsSample z) (other : BitVec 8) :
        coefficientOf (coefficientHigh z) (highByte (coefficientLow z ++ other)) = z := by
      rw [highByte_append, coefficientOf_parts sample]
    have low {z : Int} (sample : IsSample z) (other : BitVec 8) :
        coefficientOf (coefficientHigh z) (lowByte (other ++ coefficientLow z)) = z := by
      rw [lowByte_append, coefficientOf_parts sample]
    exact (StageParams.filter.injEq ..).mpr ⟨high s0 _, low s1 _, high s2 _, low s3 _, high s4 _⟩
  | tremolo depth mode period division =>
    obtain ⟨depthHigh, periodLow, periodHigh⟩ := range
    exact (StageParams.tremolo.injEq ..).mpr ⟨clampNat_word (by omega) (Nat.zero_le depth) depthHigh,
      rateModeOf_word mode, clampNat_twoWords (by omega) periodLow periodHigh, divisionOf_word division⟩
  | shaper drive curve oversampling level =>
    obtain ⟨driveLow, driveHigh, levelHigh⟩ := range
    exact (StageParams.shaper.injEq ..).mpr ⟨clampNat_word (by omega) driveLow driveHigh,
      clampFin_word (by omega) curve, clampFin_word (by omega) oversampling, word_toNat level (by omega)⟩
  | cab slot taps =>
    obtain ⟨tapsLow, tapsHigh⟩ := range
    exact (StageParams.cab.injEq ..).mpr ⟨clampFin_word (by omega) slot, clampNat_word (by omega) tapsLow tapsHigh⟩
  | delay p =>
    obtain ⟨maxLow, maxHigh, fixedLow, fixedHigh, feedbackHigh, wetHigh, limitLow, limitHigh⟩ := range
    exact congrArg StageParams.delay ((DelayParams.mk.injEq ..).mpr ⟨clampNat_twoWords (by omega) maxLow maxHigh,
      delayModeOf_word p.mode, clampNat_twoWords (by omega) fixedLow fixedHigh, divisionOf_word p.division,
      clampNat_word (by omega) (Nat.zero_le _) feedbackHigh, clampNat_word (by omega) (Nat.zero_le _) wetHigh, rfl,
      clampNat_word (by omega) limitLow limitHigh⟩)

/-- A record in range is read back: word 0 gives its kind and flags, and these the reading of words 1 to 9. -/
theorem recordOf_recordWords {r : StageRecord} (range : r.params.inRange) : recordOf (recordWords r) = r := by
  obtain ⟨params, bypass, sheddable⟩ := r
  obtain ⟨kind, bypassed, shed, spill⟩ := firstWord_fields params.kind params.kind_lt bypass sheddable params.spill
  have read : (recordOf (recordWords ⟨params, bypass, sheddable⟩)).params = params := calc
    _ = paramsOf params.kind (recordWords ⟨params, bypass, sheddable⟩) params.spill :=
      congrArg₂ (fun code flag => paramsOf code _ flag) kind spill
    _ = params := paramsOf_paramWords range _
  exact (StageRecord.mk.injEq ..).mpr ⟨read, bypassed, shed⟩

/-- Settles O12: what is stored by Table 11-6, what is sent, and the two composed. -/
theorem stageRecordsReadBack : Obligations.StageRecordsReadBack :=
  ⟨fun words => ⟨paramsOf_inRange _ _ _, recordOf_stored words⟩,
    fun r => ⟨recordWords_length r, recordWords_sent r⟩, fun _ range => recordOf_recordWords range⟩

end Sys2Proof.Machine

namespace Sys2Proof.Machine

set_option Elab.async false

/-! ### The queue of commands (log entries 6, 10 and 32) -/

/-- A step takes the front command before it executes: the command sees the rest of the queue alone. -/
theorem step_withPending_cons (c : Instr) (rest : List Instr) (s : State) :
    step (s.withPending (c :: rest)) = exec c (s.withPending rest) := rfl

/-- On an empty queue the part idles (log entry 6). -/
theorem step_withPending_nil (s : State) : step (s.withPending []) = .next (s.withPending []) := rfl

/-- Settles O1: the two cases of the queue. -/
theorem stepTakesTheFrontCommand : Obligations.StepTakesTheFrontCommand :=
  ⟨step_withPending_cons, step_withPending_nil⟩

/-- The commands that wait are those of `q`. -/
def Waiting (q : List Instr) (s : State) : Prop := s.pending = q

@[simp] theorem loadChain_pending (f : InFlight) (s : State) (c : Fin 4) : (loadChain f s c).pending = s.pending := by
  unfold loadChain
  dsimp only
  split
  · rfl
  · rfl

/-- No elementary change of a step touches the queue of commands, and POWER_ON keeps it (log entry 32). -/
theorem waiting_stepInvariant (q : List Instr) : StepInvariant (Waiting q) where
  core e h := e.pending.trans h
  ctxs _ _ h := h
  idle _ _ h := h
  cut _ _ h := h
  spill _ _ h := h
  load f c h := (loadChain_pending f _ c).trans h
  mem _ _ h := h
  stack _ _ h := h
  taps _ _ h := h
  log _ _ h := h
  hold _ _ h := h
  queue _ _ h := h
  reply _ _ h := h
  period _ h := h
  rate _ _ h := h
  powerOn h := h

/-- Settles O5: every command answers a next state and keeps what the elementary changes keep, so the commands that wait. -/
theorem everyCommandCompletesAndKeepsTheQueue : Obligations.EveryCommandCompletesAndKeepsTheQueue :=
  fun c s => (waiting_stepInvariant s.pending).keeps_exec c rfl

end Sys2Proof.Machine
